-- ==== Sys2Proof/Word.lean ====
section
/-! DEFINITION. The byte, the one word type of the model (R131, R170): memory, packets and records are bytes.
Everything else the manual counts or compares is a Nat or an Int (see INVENTORY.md). -/

namespace Sys2Proof

/-- One byte of a line, a packet body or a record. -/
abbrev Byte := BitVec 8

end Sys2Proof
end

