-- ==== Sys2Proof/Syntax.lean ====
section
/-! DEFINITION. The commands and events of the ZK-2196, one constructor for each row of spec/opcode_table.json.

The part has no instructions: what reaches it are requests at its upstream port, grants and completions at its
downstream port, its reset inputs, the command functions a packet in the Command Slot names, and the steps the
blocks take when a queue has room or a report of a forwarded line arrives. A function row carries the sequence
number of its packet and the fields of its body, each as wide as the layout of R172 makes it. -/

namespace Sys2Proof

/-- The part field of a packet (R171). -/
inductive Part where
  | only | first | middle | last
  deriving DecidableEq, Repr

/-- One entry of a LoadBus body (R172). -/
structure BusEntry where
  track : Byte
  coefficient : BitVec 16
  deriving DecidableEq, Repr

/-- One entry of a SetBusLevel body (R172). -/
structure LevelEntry where
  bus : Byte
  track : Byte
  coefficient : BitVec 16
  deriving DecidableEq, Repr

/-- The SetStream body (R172). Bus field k of the eight is byte k of `buses`. -/
structure StreamBody where
  stream : Byte
  enabled : Byte
  busCount : Byte
  width : Byte
  dither : Byte
  policy : Byte
  slotCount : Byte
  buses : BitVec 64
  base : BitVec 64
  watermark : BitVec 16
  staleLimit : BitVec 16
  deriving DecidableEq, Repr

/-- The SetArchive body (R172). -/
structure ArchiveBody where
  base : BitVec 64
  sizeMiB : Byte
  count : BitVec 16
  low : BitVec 16
  high : BitVec 16
  deriving DecidableEq, Repr

/-- The SetReports body (R172). The flag byte of the class with code c is byte c. -/
structure ReportsBody where
  base : BitVec 64
  count : BitVec 16
  records : BitVec 64
  pulses : BitVec 64
  deriving DecidableEq, Repr

/-- The SetInsertion body (R172). -/
structure InsertionBody where
  response : Byte
  report : Byte
  stream : Byte
  mirror : Byte
  archive : Byte
  share : Byte
  deriving DecidableEq, Repr

/-- The commands of the part. The order is the opcode table's. -/
inductive Instr where
  /-- POWER_ON_RESET (R145): the POR input, with the levels of the BASE_SEL and PASS_ONLY straps. -/
  | powerOnReset (baseSel : BitVec 8) (passOnly : Bool)
  /-- PATH_RESET (R147): the PATH_RST input. -/
  | pathReset
  /-- LINE_WRITE (R131): a Line Write arrives upstream. Byte k of the line is bits 8k to 8k + 7 of `data`. -/
  | lineWrite (addr : BitVec 40) (data : BitVec 512) (mask : BitVec 64) (tag : BitVec 4)
  /-- LINE_READ (R131): a Line Read arrives upstream. -/
  | lineRead (addr : BitVec 40) (tag : BitVec 4)
  /-- PASSING_REQUEST_TAKE (R134): the downstream port is granted to passing traffic. -/
  | passingRequestTake
  /-- INSERTED_LINE_FORWARD (R138): the downstream port is granted to insertion. -/
  | insertedLineForward
  /-- WRITE_DONE (R133): memory completes the outstanding write with entry order `order`. -/
  | writeDone (order : Nat)
  /-- WRITE_REFUSED (R142): memory refuses the outstanding write with entry order `order`. -/
  | writeRefused (order : Nat)
  /-- READ_DATA (R133): memory answers the outstanding read with entry order `order`. -/
  | readData (order : Nat) (data : BitVec 512)
  /-- READ_REFUSED (R133): memory refuses the outstanding read with entry order `order`. -/
  | readRefused (order : Nat)
  /-- STALL_TIMER_EXPIRY (R10). -/
  | stallTimerExpiry
  /-- SET_SESSION (R5). -/
  | setSession (seq : Byte) (blockSize : BitVec 16) (lateness rate : Byte) (stall : BitVec 32)
  /-- LOAD_WINDOWS (R6), one part of it: the table may be cut anywhere between parts. -/
  | loadWindows (seq : Byte) (part : Part) (body : List Byte)
  /-- LOAD_TRACKS (R27), one part of it. -/
  | loadTracks (seq : Byte) (part : Part) (body : List Byte)
  /-- LOAD_RELEASE_ORDER (R98). -/
  | loadReleaseOrder (seq : Byte) (tracks : List Byte)
  /-- LOAD_BUS (R58). -/
  | loadBus (seq : Byte) (bus : Byte) (entries : List BusEntry)
  /-- SET_BUS_LEVEL (R59). -/
  | setBusLevel (seq : Byte) (entries : List LevelEntry)
  /-- SET_BUS_MUTE (R60). -/
  | setBusMute (seq : Byte) (selection setting : Byte)
  /-- SET_STREAM (R115). -/
  | setStream (seq : Byte) (body : StreamBody)
  /-- SET_ARCHIVE (R97). -/
  | setArchive (seq : Byte) (body : ArchiveBody)
  /-- RELEASE_SEGMENT (R106). -/
  | releaseSegment (seq : Byte) (segment : BitVec 16)
  /-- SET_REPORTS (R164). -/
  | setReports (seq : Byte) (body : ReportsBody)
  /-- SET_INSERTION (R141). -/
  | setInsertion (seq : Byte) (body : InsertionBody)
  /-- START (R7). -/
  | start (seq : Byte)
  /-- STOP (R12). -/
  | stop (seq : Byte)
  /-- PIN_SETTINGS (R158). -/
  | pinSettings (seq : Byte) (setting : Byte)
  /-- RESTART (R159). -/
  | restart (seq : Byte)
  /-- GET_FAIL_REASON (R157). -/
  | getFailReason (seq : Byte)
  /-- GET_SESSION (R161). -/
  | getSession (seq : Byte)
  /-- GET_TRACKS (R38). -/
  | getTracks (seq : Byte) (first count : Byte)
  /-- GET_WINDOWS (R23). -/
  | getWindows (seq : Byte)
  /-- GET_METERS (R77). -/
  | getMeters (seq : Byte)
  /-- GET_STREAMS (R128). -/
  | getStreams (seq : Byte)
  /-- GET_ARCHIVE (R111). -/
  | getArchive (seq : Byte)
  /-- GET_RESET_CAUSE (R160). -/
  | getResetCause (seq : Byte)
  /-- DRAINING_END (R13). -/
  | drainingEnd
  /-- COMMAND_END (R153). -/
  | commandEnd
  /-- SLOT_FILLED (R122). -/
  | slotFilled
  /-- SEGMENT_SETTLED (R99). -/
  | segmentSettled
  /-- RESPONSE_LINE_ENQUEUE (R153). -/
  | responseLineEnqueue
  /-- REPORT_RECORD_WRITE (R166). -/
  | reportRecordWrite
  /-- STREAM_LINE_ENQUEUE (R122). -/
  | streamLineEnqueue
  /-- ARCHIVE_LINE_ENQUEUE (R105). -/
  | archiveLineEnqueue
  deriving DecidableEq, Repr

end Sys2Proof
end

