-- ==== Sys2Proof/Decode.lean ====
section
/-! DEFINITION. The table of this part gives none of its rows any bits: its commands are requests, pins, packets and
events, not encoded words. So no word spells a command. The fields of a command packet are read in
Machine/Operands.lean and Machine/Commands.lean. -/

namespace Sys2Proof

/-- The command that a word of `nbits` bits spells: none, for no row of the table has an encoding. -/
def decodeTableWord (_nbits _w : Nat) : Option Instr := none

end Sys2Proof
end

