-- ==== Sys2Proof/Config.lean ====
section
/-! DEFINITION. What the manual leaves open and no state of the part fixes: two FREE VALUES, opaque constants with
no body, so that no proof can know them. -/

namespace Sys2Proof

/-- FREE VALUE (assumption 3). The manual leaves the order of some takes of one step open: window liveness and
track status at a frame close, and the Mix Engine and the Archive Writer at a frame close (R48, steps 3 and 4),
and the Path Unit's MIRROR_LOSS beside the window write's own records (R144, R165). `Config.freeOrder k` says
whether the first named of the k-th such pair is taken first; nothing in the model constrains it. -/
opaque Config.freeOrder : Nat → Bool

/-- FREE VALUE (assumption 8). The manual gives a query response bytes for a field and does not state what they hold
where the field does not apply: the fields of an absent session record (R161), an absent alternate source (R38), the
mirror base of a window without a mirror (R23), the frame counts of the OPEN segment where none is OPEN (R111).
`Config.freeByte k i` is the i-th such byte of the response to the k-th packet taken; nothing in the model constrains
it. -/
opaque Config.freeByte : Nat → Nat → Byte

end Sys2Proof
end

