-- ==== Sys2Proof/Machine/Bytes.lean ====
section
/-! DEFINITION. Bytes, little-endian fields, lines and masks (00_scope.md, Conventions; R86, R170). -/

namespace Sys2Proof.Machine

/-- Bytes in a line. -/
def lineSize : Nat := 64

/-- The `n` bytes of `x`, least significant first (R170). -/
def leBytes : Nat → Nat → List Byte
  | 0, _ => []
  | n + 1, x => BitVec.ofNat 8 x :: leBytes n (x / 256)

/-- The value of a little-endian field. -/
def leValue : List Byte → Nat
  | [] => 0
  | b :: bs => b.toNat + 256 * leValue bs

/-- The field of `size` bytes at `offset` of an object. -/
def fieldAt (bytes : List Byte) (offset size : Nat) : Nat := leValue ((bytes.drop offset).take size)

/-- The byte at `offset` of an object. -/
def byteAt (bytes : List Byte) (offset : Nat) : Byte := bytes.getD offset 0

/-- Two's complement of width `w` as a number (R170). -/
def signedField (w : Nat) (x : Int) : Nat := (BitVec.ofInt w x).toNat

/-- The first `n` bytes, with zero bytes after a shorter object (R170). -/
def padTo (n : Nat) (bytes : List Byte) : List Byte := bytes.take n ++ List.replicate (n - bytes.length) 0

/-- The 64 bytes of a line from its image as one number, byte k in bits 8k to 8k + 7. -/
def lineBytes (data : BitVec 512) : List Byte := leBytes lineSize data.toNat

/-- Every byte enabled. -/
def fullMask : BitVec 64 := BitVec.allOnes 64

/-- The bytes of `old` with those that `mask` enables replaced by `new`'s. -/
def mergeLine (old new : List Byte) (mask : BitVec 64) : List Byte :=
  (List.range lineSize).map fun k => if mask.getLsbD k then new.getD k 0 else old.getD k 0

/-- The line at `offset` of an object, with zero bytes where the object ends. -/
def lineAt (bytes : List Byte) (offset : Nat) : List Byte := padTo lineSize (bytes.drop offset)

/-- An object cut into whole lines. -/
def cutLines (bytes : List Byte) : List (List Byte) :=
  (List.range ((bytes.length + 63) / 64)).map fun j => lineAt bytes (64 * j)

/-- A Bool as a one-byte flag. -/
def flagByte (b : Bool) : List Byte := [if b then 1 else 0]

/-- The 16-bit sum of body bytes, modulo 65,536 (R152). -/
def bodySum (bytes : List Byte) : Nat := (bytes.foldl (fun n b => n + b.toNat) 0) % 65536

/-- The greatest value of a 32-bit counter. -/
def maxCount : Nat := 4294967295

/-- One more, stopping at the greatest 32-bit value (00_scope.md, Counters). -/
def satInc (n : Nat) : Nat := if n < maxCount then n + 1 else n

/-- `k` more, stopping at the greatest 32-bit value (00_scope.md, Counters). -/
def satAdd (n k : Nat) : Nat := min (n + k) maxCount

/-- No entry stands twice in the list. -/
def noRepeats {α : Type} [DecidableEq α] : List α → Bool
  | [] => true
  | x :: xs => !xs.contains x && noRepeats xs

end Sys2Proof.Machine
end

