-- ==== Sys2Proof/Machine/State.lean ====
section
/-! DEFINITION. Every piece of state the manual gives the ZK-2196, block by block, as plain data, and the state
after power-on reset. Values the manual keeps that are functions of other state (the hazard table, the source map,
FREE and FILLED counts, winner counts, directory pending flags, the write position) are computed in Ops.lean from
their one home; INVENTORY.md names each. -/

namespace Sys2Proof.Machine

/-! ### Lines, requests and the insertion queues (Section 8) -/

/-- The data and byte-enable mask of a Line Write: byte k of the line is entry k, enabled when bit k is set. -/
structure WriteData where
  data : List Byte
  mask : BitVec 64
  deriving DecidableEq, Repr

/-- A passing request (R131): its entry order (R132), line address, source tag, and for a write its data. -/
structure Passing where
  order : Nat
  addr : Nat
  tag : BitVec 4
  write : Option WriteData
  deriving DecidableEq, Repr

/-- The five producers of inserted lines (Section 8.4). -/
inductive Producer where
  | response | report | stream | mirror | archive
  deriving DecidableEq, Repr

/-- One value for each producer. -/
structure PerProducer (α : Type) where
  response : α
  report : α
  stream : α
  mirror : α
  archive : α
  deriving DecidableEq, Repr

/-- Segment states (R99). -/
inductive SegState where
  | free | opened | closed
  deriving DecidableEq, Repr

/-- What the producer of an inserted line does with the report of its forwarding (R138) depends on what the line
is: this is what the producer knows of it. -/
inductive Note where
  /-- A working, body or abandoned line of the Response Slot: its report has no further effect. -/
  | responseLine
  /-- A final header line (R153). -/
  | finalHeader
  /-- A report record, with the pulse flag it took at filing (R167). -/
  | record (pulse : Bool)
  /-- A payload line of a stream slot (R122). -/
  | streamPayload
  /-- The header line of a stream slot that holds `frame` (R122). -/
  | streamHeader (stream slot frame : Nat)
  /-- A safety-mirror copy (R143). -/
  | mirrorCopy
  /-- The directory header line (R101). -/
  | directoryHeader
  /-- The directory record of `segment`, in the state it carries (R101). -/
  | directoryRecord (segment : Nat) (state : SegState)
  /-- A line of an archive frame that is not its last (R105). -/
  | frameLine
  /-- The last line of an archive frame: what the segment holds up to and with it (R105). -/
  | frameEnd (segment frame count used : Nat)
  deriving DecidableEq, Repr

/-- A line in an insertion queue (R137). -/
structure Inserted where
  order : Nat
  addr : Nat
  write : WriteData
  note : Note
  deriving DecidableEq, Repr

/-- Who issued a forwarded request (R133). -/
inductive Origin where
  | passing (tag : BitVec 4)
  | inserted (producer : Producer)
  deriving DecidableEq, Repr

/-- The record of a forwarded request whose completion has not returned (R133). -/
structure Outstanding where
  order : Nat
  origin : Origin
  isWrite : Bool
  addr : Nat
  deriving DecidableEq, Repr

/-- The newest closed number at a target's last record of a once-per-close kind (R136, R142, R144); a target that
is not listed has none recorded. -/
structure OnceNote where
  target : Nat
  closed : Option Nat
  deriving DecidableEq, Repr

/-- The Path Unit (R131 to R148). -/
structure PathUnit where
  /-- The forward queue, at most 32, oldest first (R131). -/
  forward : List Passing
  /-- Requests that wait at the upstream port for queue space, oldest first (R131). -/
  waiting : List Passing
  /-- The entry order of the next request or line (R132). -/
  nextOrder : Nat
  /-- The five insertion queues, each oldest first (R137); the hazard table is their lines (R132). -/
  queues : PerProducer (List Inserted)
  /-- Forwarded requests without a completion (R133). -/
  outstanding : List Outstanding
  /-- The share counter (R139). -/
  share : Nat
  /-- The priority levels (R141). -/
  levels : PerProducer Nat
  /-- The insertion share P (R141). -/
  shareLimit : Nat
  /-- Archive guard refusals (R136). -/
  archiveRefusals : Nat
  /-- Response guard refusals (R136). -/
  responseRefusals : Nat
  /-- Noted newest closed numbers of segments 0..255 and of the Response Slot, 0xFFFF (R136). -/
  guardNotes : List OnceNote
  /-- Path-error counters (R142). -/
  pathErrors : PerProducer Nat
  /-- Noted newest closed numbers of the producers (R142). -/
  errorNotes : List OnceNote
  /-- Mirror-loss counters of windows 0..15 (R144). -/
  mirrorLoss : List Nat
  /-- Noted newest closed numbers of the windows (R144). -/
  mirrorNotes : List OnceNote
  /-- After a path reset: an ABANDONED header is queued and no other queue is granted (R147). -/
  abandonedFirst : Bool
  deriving DecidableEq, Repr

/-! ### The signals of the latest step -/

/-- A request issued on the downstream port (R131, R138); a read carries no data. -/
structure DownRequest where
  addr : Nat
  write : Option WriteData
  tag : BitVec 4
  deriving DecidableEq, Repr

/-- What a completion returns (00_scope.md, Terms). -/
inductive Completion where
  | writeDone | writeRefused | readData (data : BitVec 512) | readRefused
  deriving DecidableEq, Repr

/-- A completion returned upstream, addressed by its source tag (R133). -/
structure UpCompletion where
  tag : BitVec 4
  completion : Completion
  deriving DecidableEq, Repr

/-- What the part put on its outputs in the latest step: a downstream request, an upstream completion, a pulse of
the notify line (R167). -/
structure Ports where
  down : Option DownRequest
  up : Option UpCompletion
  notify : Bool
  deriving DecidableEq, Repr

/-- The straps as read at the last power-on reset (R145, R146). -/
structure Straps where
  baseSel : BitVec 8
  passOnly : Bool
  deriving DecidableEq, Repr

/-! ### The Command Unit (Section 9) -/

/-- The command functions (R172). -/
inductive Function where
  | setSession | loadWindows | loadTracks | loadReleaseOrder | loadBus | setBusLevel | setBusMute | setStream
  | setArchive | releaseSegment | setReports | setInsertion | start | stop | pinSettings | restart
  | getFailReason | getSession | getTracks | getWindows | getMeters | getStreams | getArchive | getResetCause
  deriving DecidableEq, Repr

/-- Refusal reasons (R157). -/
inductive Reason where
  | none | notIdle | badValue | overlap | duplicateEntry | unknownTrack | notClosed | notEmpty | notConfigured
  | capacity
  deriving DecidableEq, Repr

/-- A line of the Command Unit's output list (R153). A final header line is built when it is enqueued. -/
inductive ResponseOut where
  /-- A finished line, by its line number in the Response Slot. -/
  | line (index : Nat) (data : List Byte)
  | finalHeader
  deriving DecidableEq, Repr

/-- The command in progress (R151, R153, R154). -/
structure Working where
  seq : Byte
  /-- The function field as the packet gave it. -/
  function : BitVec 16
  /-- The outcome flags. -/
  flags : BitVec 16
  /-- The refusal reason, NONE unless REFUSED is set. -/
  reason : Reason
  /-- The response body. -/
  body : List Byte
  /-- A final header line has entered the Response queue. -/
  finalEnqueued : Bool
  /-- Final header lines appended and not yet forwarded. -/
  finals : Nat
  deriving DecidableEq, Repr

/-- The open multi-part sequence (R155). -/
structure OpenSequence where
  function : Function
  parts : Nat
  staged : List Byte
  deriving DecidableEq, Repr

/-- The reset-cause set (R160). -/
structure ResetCauses where
  power : Bool
  path : Bool
  restart : Bool
  deriving DecidableEq, Repr

/-- The Command Unit (R149 to R163). It is WORKING while `working` holds a command. -/
structure CommandUnit where
  /-- The Command Buffer, 1024 bytes (R149). -/
  buffer : List Byte
  /-- The coverage map, one mark a line (R149). -/
  coverage : BitVec 16
  lastTaken : Byte
  working : Option Working
  /-- The output list (R153). -/
  out : List ResponseOut
  openSequence : Option OpenSequence
  failReason : Reason
  pin : Bool
  causes : ResetCauses
  taken : Nat
  checkFailures : Nat
  refused : Nat
  overruns : Nat
  abandoned : Nat
  deriving DecidableEq, Repr

/-! ### Session Control and the windows (Section 1) -/

/-- Session states (Section 1.3). -/
inductive SessionState where
  | idle | armed | running | stalled | draining
  deriving DecidableEq, Repr

/-- Rate codes (R4). -/
inductive Rate where
  | r48k | r96k
  deriving DecidableEq, Repr

/-- The settable fields of the session record (R4). -/
structure SessionRecord where
  blockSize : Nat
  lateness : Nat
  stall : Nat
  rate : Rate
  deriving DecidableEq, Repr

/-- Container formats (R3). -/
inductive Format where
  | left | right
  deriving DecidableEq, Repr

/-- A loaded window record (R1). -/
structure WindowRecord where
  base : Nat
  lanes : Nat
  slots : Nat
  format : Format
  /-- The mirror base, where the safety mirror copies this window. -/
  mirror : Option Nat
  liveLimit : Nat
  deriving DecidableEq, Repr

/-- Per-window counters (R24). -/
structure WindowCounters where
  completed : Nat
  stray : Nat
  late : Nat
  rewrite : Nat
  incomplete : Nat
  exhausted : Nat
  ignored : Nat
  deriving DecidableEq, Repr

/-- Window liveness (R22). -/
inductive Liveness where
  | live | lost
  deriving DecidableEq, Repr

/-- One entry of the window table with what Session Control keeps for it (R1, R15, R17, R22, R24). -/
structure Window where
  record : Option WindowRecord
  anchor : Nat
  reference : Option Nat
  anchored : Bool
  liveness : Liveness
  changed : Bool
  /-- Consecutive closed frames without a completed block, 0..255. -/
  missed : Nat
  /-- The next stray write files a record (R17). -/
  strayArmed : Bool
  /-- The next late write files a record (R17). -/
  lateArmed : Bool
  counts : WindowCounters
  deriving DecidableEq, Repr

/-- Session Control (R1 to R17, R22). -/
structure SessionControl where
  state : SessionState
  record : Option SessionRecord
  serial : Nat
  /-- The resume frame Q (R11). -/
  resume : Option Nat
  /-- The microseconds left on the stall timer; none while it is stopped (R9). -/
  timer : Option Nat
  /-- The window table, sixteen entries. -/
  windows : List Window
  deriving DecidableEq, Repr

/-! ### The Capture Assembler (Section 1.5) -/

/-- One line of a block buffer: its bytes and their coverage marks (R18). -/
structure BufferLine where
  data : List Byte
  cover : BitVec 64
  deriving DecidableEq, Repr

/-- A block buffer in use, with its key (R18). -/
structure Buffer where
  window : Nat
  lane : Nat
  frame : Nat
  lines : List BufferLine
  deriving DecidableEq, Repr

/-! ### The Source Selector (Section 2) -/

/-- A (window, lane) pair. -/
structure Source where
  window : Nat
  lane : Nat
  deriving DecidableEq, Repr

/-- The role of a source (R26). -/
inductive Role where
  | primary | alternate
  deriving DecidableEq, Repr

/-- A track record (R25); the default record has no primary source. -/
structure TrackRecord where
  enabled : Bool
  primary : Option Source
  alternate : Option Source
  compare : Bool
  lossLimit : Nat
  deriving DecidableEq, Repr

/-- Track status (Section 2.3). -/
inductive TrackStatus where
  | idle | waiting | active | lost
  deriving DecidableEq, Repr

/-- One entry of the Track Table with its status and counters (R25, R33, R36). -/
structure Track where
  record : TrackRecord
  status : TrackStatus
  run : Nat
  last : Option Role
  absentFrames : Nat
  alternateWins : Nat
  compared : Nat
  disagreements : Nat
  deriving DecidableEq, Repr

/-! ### The Frame Table (Section 3) -/

/-- A set winner field with the CRC of its block (R28, R39). -/
structure Win where
  track : Nat
  role : Role
  crc : BitVec 32
  deriving DecidableEq, Repr

/-- One input of a bus snapshot (R62). -/
structure SnapInput where
  track : Nat
  c0 : Int
  c1 : Int
  deriving DecidableEq, Repr

/-- The snapshot of one bus (R62). -/
structure BusSnapshot where
  inputs : List SnapInput
  gain0 : Int
  gain1 : Int
  deriving DecidableEq, Repr

/-- The track and size of the entry that did not fit (R91). -/
structure DropMark where
  track : Nat
  size : Nat
  deriving DecidableEq, Repr

/-- A frame record (R39) with the per-frame state that lives and dies with it: the completion map (R18), the
pool-exhaustion mark (R19) and the disagreement-reported flag (R31). A track that is not in `wins` has winner
none; a source lane in neither list of the completion map is NONE. -/
structure Frame where
  number : Nat
  discontinuity : Bool
  wins : List Win
  /-- None for an empty frame (R44). -/
  snapshot : Option (List BusSnapshot)
  /-- Eight accumulators of N values (R66). -/
  accumulators : List (List Int)
  /-- Set when the staged-entry list is marked dropped (R91). -/
  drop : Option DropMark
  /-- Not set before the close (R35, R48). -/
  absent : Option Nat
  completed : List Source
  failed : List Source
  exhausted : Bool
  disagreed : Bool
  deriving DecidableEq, Repr

/-- The counters of R54. -/
structure FrameCounters where
  opened : Nat
  closed : Nat
  empty : Nat
  complete : Nat
  lateness : Nat
  stall : Nat
  stop : Nat
  deriving DecidableEq, Repr

/-- The Frame Table (R39 to R56). -/
structure FrameTable where
  /-- The held records, in number order. -/
  frames : List Frame
  newest : Option Nat
  reference : Nat
  discontinuity : Option Nat
  enabled : Nat
  counters : FrameCounters
  deriving DecidableEq, Repr

/-! ### The Mix Engine (Section 4) -/

/-- One input of a bus list (R57). -/
structure BusInput where
  track : Nat
  coefficient : Int
  deriving DecidableEq, Repr

/-- One bus with its meters (R57, R77). A mute field is true for ON. -/
structure Bus where
  target : List BusInput
  applied : List BusInput
  muteTarget : Bool
  muteApplied : Bool
  peak : Nat
  overCount : Nat
  overFrames : Nat
  deriving DecidableEq, Repr

/-! ### The Archive Writer (Sections 5 and 6) -/

/-- The area record (R96). -/
structure Area where
  base : Nat
  sizeMiB : Nat
  count : Nat
  low : Nat
  high : Nat
  deriving DecidableEq, Repr

/-- Close causes of a directory record (R101). -/
inductive CloseCause where
  | none | rolled | stopped | reset
  deriving DecidableEq, Repr

/-- One data segment: its state, settled flag and directory values (R99, R101), and for the OPEN one its forwarded
values (R105). While it is OPEN, `last`, `count` and `used` are its pending values (R103). -/
structure Segment where
  state : SegState
  settled : Bool
  cause : CloseCause
  serial : Nat
  first : Nat
  last : Nat
  count : Nat
  used : Nat
  forwardedLast : Nat
  forwardedCount : Nat
  forwardedUsed : Nat
  /-- The update serial of its directory record. -/
  updateSerial : Nat
  deriving DecidableEq, Repr

/-- An entry of the staging store, header and payload (R89). -/
structure StagedEntry where
  frame : Nat
  track : Nat
  bytes : List Byte
  deriving DecidableEq, Repr

/-- One entry of an archive frame (R102). -/
inductive EntryRef where
  | staged (track size : Nat)
  | absent (track : Nat)
  deriving DecidableEq, Repr

/-- An archive frame in the output list (R105): where it is placed, and the offset of the next line to build. -/
structure FrameItem where
  frame : Nat
  segment : Nat
  addr : Nat
  length : Nat
  offset : Nat
  header : List Byte
  parts : List EntryRef
  /-- The segment's frame count and used bytes with this frame. -/
  count : Nat
  used : Nat
  deriving DecidableEq, Repr

/-- An item of the Archive Writer's output list (R105). -/
inductive ArchiveOut where
  | directory (addr : Nat) (data : List Byte) (note : Note)
  | frame (item : FrameItem)
  deriving DecidableEq, Repr

/-- The counters of R94 and R112. -/
structure ArchiveCounters where
  coded : Nat
  verbatim : Nat
  escapes : Nat
  stagingDrops : Nat
  stagingPeak : Nat
  placed : Nat
  bytesPlaced : Nat
  fullDrops : Nat
  opened : Nat
  closed : Nat
  deriving DecidableEq, Repr

/-- The Archive Writer (R79, R89 to R113). -/
structure ArchiveWriter where
  area : Option Area
  /-- Data segments 1..count−1, segment s at position s − 1. -/
  segments : List Segment
  /-- The Release Order List (R98). -/
  releaseOrder : List Nat
  archiving : Bool
  full : Bool
  warning : Bool
  pendingDiscontinuity : Bool
  /-- The directory update serial (R101). -/
  updateSerial : Nat
  /-- The staging store, in order of admission (R89). -/
  staging : List StagedEntry
  /-- The output list (R105). -/
  out : List ArchiveOut
  /-- The segment whose closing record DRAINING waits for (R13, R109). -/
  closing : Option Nat
  counters : ArchiveCounters
  deriving DecidableEq, Repr

/-! ### The Stream Writer (Section 7) -/

/-- Slot states (R116). -/
inductive SlotState where
  | free | filling | filled
  deriving DecidableEq, Repr

/-- One slot of a ring (R116). `read` lists the lines marked read, each once. -/
structure Slot where
  state : SlotState
  read : List Nat
  concealed : Bool
  deriving DecidableEq, Repr

/-- One stream: its record (R114), ring state (R116, R125, R126), dither generator (R75) and counters (R129). -/
structure Stream where
  record : Option StreamBody
  slots : List Slot
  writePosition : Nat
  watermarkArmed : Bool
  staleArmed : Bool
  staleCount : Nat
  generator : BitVec 32
  filled : Nat
  freed : Nat
  dropped : Nat
  overwritten : Nat
  late : Nat
  unmarked : Nat
  deriving DecidableEq, Repr

/-- A stream frame in the output list: its slot, the line index of the next payload line, the payload lines still
to enqueue and the header line (R122). -/
structure StreamOut where
  stream : Nat
  slot : Nat
  frame : Nat
  addr : Nat
  next : Nat
  payload : List (List Byte)
  header : List Byte
  deriving DecidableEq, Repr

/-- The Stream Writer (R114 to R130). -/
structure StreamWriter where
  streams : List Stream
  out : List StreamOut
  deriving DecidableEq, Repr

/-! ### The Report Writer (Section 10) -/

/-- Record kinds (R177). -/
inductive RecordKind where
  | startup | sessionState | stall | resume | lateWrite | strayWrite | windowLost | windowBack | poolExhausted
  | trackLost | trackBack | sourceDisagree | busOver | archiveDrop | archiveFull | segmentClosed | spaceLow
  | spaceOk | guardRefusal | streamWatermark | streamStale | streamDrop | streamOverwrite | streamLate
  | mirrorLoss | pathError | commandDone
  deriving DecidableEq, Repr

/-- A record as its owner files it (R165); `frame` is none where no frame applies. -/
structure Record where
  kind : RecordKind
  subject : Nat
  frame : Option Nat
  value : Nat
  second : Nat
  deriving DecidableEq, Repr

/-- A queued record with the pulse flag it took at filing (R165). -/
structure FiledRecord where
  record : Record
  pulse : Bool
  deriving DecidableEq, Repr

/-- The report settings (R164); bit c of a flag set is the class with code c. -/
structure ReportSettings where
  base : Nat
  count : Nat
  records : BitVec 8
  pulses : BitVec 8
  deriving DecidableEq, Repr

/-- The Report Writer (R164 to R169). -/
structure ReportWriter where
  settings : Option ReportSettings
  index : Nat
  serial : Nat
  /-- The record queue, at most 32 (R165). -/
  queue : List FiledRecord
  lost : Nat
  startup : Bool
  deriving DecidableEq, Repr

/-! ### The machine -/

/-- A forwarding report (R138) whose effect is a step of its own in the opcode table and has not been taken yet:
the end of the command, the filling of a slot, the settling of a segment. -/
inductive Report where
  | commandEnd
  | slotFilled (stream slot frame : Nat)
  | segmentSettled (segment : Nat)
  deriving DecidableEq, Repr

/-- The whole part, with the queue of commands that are waiting. -/
structure State where
  /-- Commands waiting, first in, first out (the model's own). -/
  pending : List Instr
  ports : Ports
  straps : Straps
  path : PathUnit
  cmd : CommandUnit
  sess : SessionControl
  /-- The Capture Assembler's buffers in use, at most 256 (R18). -/
  buffers : List Buffer
  /-- The Track Table, 128 entries (R25). -/
  tracks : List Track
  ft : FrameTable
  /-- Buses 0..7 (R57). -/
  buses : List Bus
  aw : ArchiveWriter
  sw : StreamWriter
  rw : ReportWriter
  /-- The forwarding report not yet taken (assumption 5). -/
  report : Option Report
  /-- How many free choices of order have been made: the argument of Config.freeOrder (the model's own). -/
  freeCount : Nat
  deriving DecidableEq, Repr

/-- Faults. The manual gives the part no event that stops it, and every command has a next state, so there is no
fault. -/
inductive Fault where
  deriving DecidableEq, Repr

/-- Refusals. -/
inductive Refusal where
  /-- Raised by `exec` for a command that has no meaning yet, by the mnemonic of its row. Safe. No arm raises it. -/
  | notModelled (mnemonic : String)
  deriving DecidableEq, Repr

/-! ### Reset -/

/-- The Path Unit after power-on reset (R141, R148). DESIGN CHOICE (assumption 30): requests that wait at the upstream
port are dropped with it. -/
def PathUnit.reset : PathUnit where
  forward := []
  waiting := []
  nextOrder := 0
  queues := ⟨[], [], [], [], []⟩
  outstanding := []
  share := 0
  levels := ⟨3, 2, 2, 1, 1⟩
  shareLimit := 4
  archiveRefusals := 0
  responseRefusals := 0
  guardNotes := []
  pathErrors := ⟨0, 0, 0, 0, 0⟩
  errorNotes := []
  mirrorLoss := List.replicate 16 0
  mirrorNotes := []
  abandonedFirst := false

/-- The Command Unit after power-on reset (R163). -/
def CommandUnit.reset : CommandUnit where
  buffer := List.replicate 1024 0
  coverage := 0
  lastTaken := 0
  working := none
  out := []
  openSequence := none
  failReason := .none
  pin := false
  causes := ⟨true, false, false⟩
  taken := 0
  checkFailures := 0
  refused := 0
  overruns := 0
  abandoned := 0

/-- No window counter has counted (R24). -/
def WindowCounters.zero : WindowCounters := ⟨0, 0, 0, 0, 0, 0, 0⟩

/-- An unloaded window (R14). -/
def Window.unloaded : Window where
  record := none
  anchor := 0
  reference := none
  anchored := true
  liveness := .live
  changed := false
  missed := 0
  strayArmed := false
  lateArmed := false
  counts := WindowCounters.zero

/-- Session Control after power-on reset (R14). -/
def SessionControl.reset : SessionControl where
  state := .idle
  record := none
  serial := 0
  resume := none
  timer := none
  windows := List.replicate 16 Window.unloaded

/-- The default track record (Section 2.1). -/
def TrackRecord.default : TrackRecord := ⟨false, none, none, false, 1⟩

/-- A track after power-on reset (R37). -/
def Track.reset : Track := ⟨TrackRecord.default, .idle, 0, none, 0, 0, 0, 0⟩

/-- No frame counted (R54). -/
def FrameCounters.zero : FrameCounters := ⟨0, 0, 0, 0, 0, 0, 0⟩

/-- The Frame Table after power-on reset (R55). -/
def FrameTable.reset : FrameTable := ⟨[], none, 0, none, 0, FrameCounters.zero⟩

/-- A bus after power-on reset (R78). -/
def Bus.reset : Bus := ⟨[], [], false, false, 0, 0, 0⟩

/-- No archive counter has counted (R94, R112). -/
def ArchiveCounters.zero : ArchiveCounters := ⟨0, 0, 0, 0, 0, 0, 0, 0, 0, 0⟩

/-- The Archive Writer after power-on reset (R95, R113). -/
def ArchiveWriter.reset : ArchiveWriter where
  area := none
  segments := []
  releaseOrder := []
  archiving := false
  full := false
  warning := false
  pendingDiscontinuity := false
  updateSerial := 0
  staging := []
  out := []
  closing := none
  counters := ArchiveCounters.zero

/-- A stream after power-on reset (R130, R78). -/
def Stream.reset : Stream where
  record := none
  slots := []
  writePosition := 0
  watermarkArmed := true
  staleArmed := true
  staleCount := 0
  generator := 0
  filled := 0
  freed := 0
  dropped := 0
  overwritten := 0
  late := 0
  unmarked := 0

/-- The Stream Writer after power-on reset (R130). -/
def StreamWriter.reset : StreamWriter := ⟨List.replicate 4 Stream.reset, []⟩

/-- The Report Writer after power-on reset (R168, R169). -/
def ReportWriter.reset : ReportWriter := ⟨none, 0, 0, [], 0, true⟩

/-- No signal on any output. -/
def Ports.quiet : Ports := ⟨none, none, false⟩

/-- The part after power-on reset with the strap levels given, nothing waiting (R14, R37, R55, R78, R95, R113,
R130, R148, R163, R169). -/
def State.powerOn (baseSel : BitVec 8) (passOnly : Bool) : State where
  pending := []
  ports := Ports.quiet
  straps := ⟨baseSel, passOnly⟩
  path := PathUnit.reset
  cmd := CommandUnit.reset
  sess := SessionControl.reset
  buffers := []
  tracks := List.replicate 128 Track.reset
  ft := FrameTable.reset
  buses := List.replicate 8 Bus.reset
  aw := ArchiveWriter.reset
  sw := StreamWriter.reset
  rw := ReportWriter.reset
  report := none
  freeCount := 0

/-- The machine right after power-on reset. The strap levels are inputs: the model takes base select 0 and
pass-only off (assumption 1, DESIGN CHOICE). -/
def State.reset : State := State.powerOn 0 false

end Sys2Proof.Machine
end

