-- ==== Sys2Proof/Machine/Flags.lean ====
section
/-! DEFINITION. The codes and flag bits of R170, R171, R172 and R177. -/

namespace Sys2Proof.Machine

/-! ### Outcome flags (R171) -/

def flagCheckError : BitVec 16 := 0x0001#16
def flagBadKind : BitVec 16 := 0x0002#16
def flagBadPart : BitVec 16 := 0x0004#16
def flagBadFunction : BitVec 16 := 0x0008#16
def flagShortBody : BitVec 16 := 0x0010#16
def flagLength : BitVec 16 := 0x0020#16
def flagBrokenSequence : BitVec 16 := 0x0040#16
def flagRefused : BitVec 16 := 0x0080#16
def flagOverrun : BitVec 16 := 0x0100#16

/-! ### Codes -/

/-- Refusal reason codes (R171). -/
def Reason.code : Reason → Nat
  | .none => 0
  | .notIdle => 1
  | .badValue => 2
  | .overlap => 3
  | .duplicateEntry => 4
  | .unknownTrack => 5
  | .notClosed => 6
  | .notEmpty => 7
  | .notConfigured => 8
  | .capacity => 9

/-- Session state codes (R170). -/
def SessionState.code : SessionState → Nat
  | .idle => 0
  | .armed => 1
  | .running => 2
  | .stalled => 3
  | .draining => 4

/-- Rate codes (R170). -/
def Rate.code : Rate → Nat
  | .r48k => 1
  | .r96k => 2

/-- Container format codes (R170). -/
def Format.code : Format → Nat
  | .left => 0
  | .right => 1

/-- Window liveness codes (R170). -/
def Liveness.code : Liveness → Nat
  | .live => 0
  | .lost => 1

/-- Track status codes (R170). -/
def TrackStatus.code : TrackStatus → Nat
  | .idle => 0
  | .waiting => 1
  | .active => 2
  | .lost => 3

/-- Winning role codes (R170). -/
def Role.code : Role → Nat
  | .primary => 1
  | .alternate => 2

/-- Last source codes (R170). -/
def lastCode : Option Role → Nat
  | none => 0
  | some r => r.code

/-- Stream slot state codes (R170). -/
def SlotState.code : SlotState → Nat
  | .free => 0
  | .filling => 1
  | .filled => 2

/-- Segment state codes (R170). -/
def SegState.code : SegState → Nat
  | .free => 0
  | .opened => 1
  | .closed => 2

/-- Close cause codes (R170). -/
def CloseCause.code : CloseCause → Nat
  | .none => 0
  | .rolled => 1
  | .stopped => 2
  | .reset => 3

/-- Producer codes of PATH_ERROR (R142). -/
def Producer.code : Producer → Nat
  | .response => 0
  | .report => 1
  | .stream => 2
  | .mirror => 3
  | .archive => 4

/-- Record kind codes (R177). -/
def RecordKind.code : RecordKind → Nat
  | .startup => 1
  | .sessionState => 2
  | .stall => 3
  | .resume => 4
  | .lateWrite => 5
  | .strayWrite => 6
  | .windowLost => 7
  | .windowBack => 8
  | .poolExhausted => 9
  | .trackLost => 10
  | .trackBack => 11
  | .sourceDisagree => 12
  | .busOver => 13
  | .archiveDrop => 14
  | .archiveFull => 15
  | .segmentClosed => 16
  | .spaceLow => 17
  | .spaceOk => 18
  | .guardRefusal => 19
  | .streamWatermark => 20
  | .streamStale => 21
  | .streamDrop => 22
  | .streamOverwrite => 23
  | .streamLate => 24
  | .mirrorLoss => 25
  | .pathError => 26
  | .commandDone => 27

/-- The code of the class a record kind belongs to (Section 10.5, R177): SESSION 0, CAPTURE 1, TRACK 2, ARCHIVE 3,
STREAM 4, MIX 5, PATH 6, COMMAND 7. -/
def RecordKind.classCode : RecordKind → Nat
  | .startup | .sessionState | .stall | .resume => 0
  | .lateWrite | .strayWrite | .windowLost | .windowBack | .poolExhausted => 1
  | .trackLost | .trackBack | .sourceDisagree => 2
  | .archiveDrop | .archiveFull | .segmentClosed | .spaceLow | .spaceOk => 3
  | .streamWatermark | .streamStale | .streamDrop | .streamOverwrite | .streamLate => 4
  | .busOver => 5
  | .guardRefusal | .mirrorLoss | .pathError => 6
  | .commandDone => 7

/-! ### Functions (R172) -/

/-- Function numbers. -/
def Function.number : Function → Nat
  | .setSession => 0x0011
  | .loadWindows => 0x0012
  | .loadTracks => 0x0013
  | .loadReleaseOrder => 0x0014
  | .loadBus => 0x0021
  | .setBusLevel => 0x0022
  | .setBusMute => 0x0023
  | .setStream => 0x0031
  | .setArchive => 0x0041
  | .releaseSegment => 0x0042
  | .setReports => 0x0051
  | .setInsertion => 0x0052
  | .start => 0x0061
  | .stop => 0x0062
  | .pinSettings => 0x0071
  | .restart => 0x0072
  | .getFailReason => 0x0081
  | .getSession => 0x0082
  | .getTracks => 0x0083
  | .getWindows => 0x0084
  | .getMeters => 0x0085
  | .getStreams => 0x0086
  | .getArchive => 0x0087
  | .getResetCause => 0x0088

/-- The functions, in table order. -/
def Function.all : List Function :=
  [.setSession, .loadWindows, .loadTracks, .loadReleaseOrder, .loadBus, .setBusLevel, .setBusMute, .setStream,
   .setArchive, .releaseSegment, .setReports, .setInsertion, .start, .stop, .pinSettings, .restart,
   .getFailReason, .getSession, .getTracks, .getWindows, .getMeters, .getStreams, .getArchive, .getResetCause]

/-- The function a number names (R152, check 2). -/
def Function.ofNumber (n : Nat) : Option Function := Function.all.find? fun f => f.number == n

/-- Whether the class is GET. -/
def Function.isGet : Function → Bool
  | .getFailReason | .getSession | .getTracks | .getWindows | .getMeters | .getStreams | .getArchive
  | .getResetCause => true
  | .setSession | .loadWindows | .loadTracks | .loadReleaseOrder | .loadBus | .setBusLevel | .setBusMute
  | .setStream | .setArchive | .releaseSegment | .setReports | .setInsertion | .start | .stop | .pinSettings
  | .restart => false

/-- The two functions that may be sent in several parts (R152, check 4). -/
def Function.multiPart : Function → Bool
  | .loadWindows | .loadTracks => true
  | .setSession | .loadReleaseOrder | .loadBus | .setBusLevel | .setBusMute | .setStream | .setArchive
  | .releaseSegment | .setReports | .setInsertion | .start | .stop | .pinSettings | .restart | .getFailReason
  | .getSession | .getTracks | .getWindows | .getMeters | .getStreams | .getArchive | .getResetCause => false

/-- The part a part field names (R171). -/
def partOfCode (n : Nat) : Option Part :=
  if n = 0 then some .only else if n = 1 then some .first else if n = 2 then some .middle
  else if n = 3 then some .last else none

end Sys2Proof.Machine
end

