-- ==== Sys2Proof/Machine/Ops.lean ====
section
/-! DEFINITION. The operations the blocks share: one setter per block of State, counters and per-producer values,
filing a record (R165), enqueueing a line (R137), the once-per-close notes (R136), and reading the tables. -/

namespace Sys2Proof.Machine

/-! ### Setters -/

/-- `s` with another `ports`. -/
def State.setPorts (s : State) (x : Ports) : State := { s with ports := x }

/-- `s` with another `straps`. -/
def State.setStraps (s : State) (x : Straps) : State := { s with straps := x }

/-- `s` with another `path`. -/
def State.setPath (s : State) (x : PathUnit) : State := { s with path := x }

/-- `s` with another `cmd`. -/
def State.setCmd (s : State) (x : CommandUnit) : State := { s with cmd := x }

/-- `s` with another `sess`. -/
def State.setSess (s : State) (x : SessionControl) : State := { s with sess := x }

/-- `s` with another `buffers`. -/
def State.setBuffers (s : State) (x : List Buffer) : State := { s with buffers := x }

/-- `s` with another `tracks`. -/
def State.setTracks (s : State) (x : List Track) : State := { s with tracks := x }

/-- `s` with another `ft`. -/
def State.setFt (s : State) (x : FrameTable) : State := { s with ft := x }

/-- `s` with another `buses`. -/
def State.setBuses (s : State) (x : List Bus) : State := { s with buses := x }

/-- `s` with another `aw`. -/
def State.setAw (s : State) (x : ArchiveWriter) : State := { s with aw := x }

/-- `s` with another `sw`. -/
def State.setSw (s : State) (x : StreamWriter) : State := { s with sw := x }

/-- `s` with another `rw`. -/
def State.setRw (s : State) (x : ReportWriter) : State := { s with rw := x }

/-- `s` with another `report`. -/
def State.setReport (s : State) (x : Option Report) : State := { s with report := x }

/-- `s` with another `freeCount`. -/
def State.setFreeCount (s : State) (x : Nat) : State := { s with freeCount := x }

/-! ### Per-producer values -/

/-- The value of one producer. -/
def PerProducer.get {α : Type} (v : PerProducer α) : Producer → α
  | .response => v.response
  | .report => v.report
  | .stream => v.stream
  | .mirror => v.mirror
  | .archive => v.archive

/-- Another value for one producer. -/
def PerProducer.set {α : Type} (v : PerProducer α) (p : Producer) (x : α) : PerProducer α :=
  match p with
  | .response => { v with response := x }
  | .report => { v with report := x }
  | .stream => { v with stream := x }
  | .mirror => { v with mirror := x }
  | .archive => { v with archive := x }

/-- The producers in the order of R140. -/
def Producer.all : List Producer := [.response, .report, .stream, .mirror, .archive]

/-- Queue capacities in lines (Section 8.4). -/
def Producer.capacity : Producer → Nat
  | .response => 16
  | .report => 8
  | .stream => 32
  | .mirror => 64
  | .archive => 64

/-! ### Filing records (R165) -/

/-- Records the queue holds at most (R165). -/
def recordQueueSize : Nat := 32

/-- R165: a filing is discarded, queued with the class's pulse flag, or lost and counted. -/
def ReportWriter.file (r : Record) (w : ReportWriter) : ReportWriter :=
  match w.settings with
  | none => w
  | some cfg =>
    if cfg.records.getLsbD r.kind.classCode then
      if w.queue.length < recordQueueSize then
        { w with queue := w.queue ++ [⟨r, cfg.pulses.getLsbD r.kind.classCode⟩] }
      else { w with lost := satInc w.lost }
    else w

/-- File one record. -/
def State.file (s : State) (r : Record) : State := s.setRw (s.rw.file r)

/-- File records in order. -/
def State.fileAll (s : State) (rs : List Record) : State := s.setRw (rs.foldl (fun w r => w.file r) s.rw)

/-- The records of two takes the manual does not order between themselves, in an order that is a FREE VALUE where
both file (assumption 3). -/
def eitherOrder (k : Nat) (a b : List Record) : List Record :=
  match a, b with
  | [], b => b
  | a, [] => a
  | a, b => if Config.freeOrder k then a ++ b else b ++ a

/-- File the records of two takes that are not ordered between themselves. -/
def State.fileEither (s : State) (a b : List Record) : State :=
  (s.fileAll (eitherOrder s.freeCount a b)).setFreeCount (s.freeCount + 1)

/-! ### Enqueueing lines (R132, R137) -/

/-- The queue holds fewer lines than its capacity. -/
def PathUnit.hasRoom (u : PathUnit) (p : Producer) : Bool := decide ((u.queues.get p).length < p.capacity)

/-- R137: a line enters the tail of its producer's queue and takes the next entry order. -/
def PathUnit.enqueue (u : PathUnit) (p : Producer) (addr : Nat) (write : WriteData) (note : Note) : PathUnit :=
  { u with
    queues := u.queues.set p (u.queues.get p ++ [⟨u.nextOrder, addr, write, note⟩])
    nextOrder := u.nextOrder + 1 }

/-- The hazard table (R132): line address and entry order of every inserted line not yet forwarded. -/
def PathUnit.hazards (u : PathUnit) : List (Nat × Nat) :=
  Producer.all.flatMap fun p => (u.queues.get p).map fun l => (l.addr, l.order)

/-! ### Records that are written once between two closes (R136, R142, R144) -/

/-- A record has been written for the target with this newest closed number. -/
def noted (notes : List OnceNote) (target : Nat) (closed : Option Nat) : Bool :=
  notes.any fun n => n.target == target && n.closed == closed

/-- The notes with the target's number replaced. -/
def noteAt (notes : List OnceNote) (target : Nat) (closed : Option Nat) : List OnceNote :=
  ⟨target, closed⟩ :: notes.filter fun n => n.target != target

/-! ### Reading the tables -/

/-- The newest closed number (R40). -/
def State.newest (s : State) : Option Nat := s.ft.newest

/-- The number after the newest closed one: the oldest number that can still close (R40). -/
def FrameTable.nextNumber (t : FrameTable) : Nat :=
  match t.newest with
  | none => 0
  | some g => g + 1

/-- A frame number at or below the newest closed number (R40). -/
def FrameTable.isClosed (t : FrameTable) (f : Nat) : Bool := decide (f < t.nextNumber)

/-- The held record of a frame number. -/
def FrameTable.find (t : FrameTable) (f : Nat) : Option Frame := t.frames.find? fun x => x.number == f

/-- The held records with that of one number changed. -/
def FrameTable.modify (t : FrameTable) (f : Nat) (change : Frame → Frame) : FrameTable :=
  { t with frames := t.frames.map fun x => if x.number == f then change x else x }

/-- The winner of a track in a frame (R39). -/
def Frame.winner (f : Frame) (track : Nat) : Option Win := f.wins.find? fun w => w.track == track

/-- The winner count (R39): how many winner fields are not none. -/
def Frame.winnerCount (f : Frame) : Nat := f.wins.length

/-- The block size in force: the session record's, or 256 where there is none (R164, check 5; assumption 14). -/
def SessionControl.blockSize (c : SessionControl) : Nat :=
  match c.record with
  | some r => r.blockSize
  | none => 256

/-- The lateness allowance in force (R4); 1 where there is no session record, when no frame can open. -/
def SessionControl.lateness (c : SessionControl) : Nat :=
  match c.record with
  | some r => r.lateness
  | none => 1

/-- The window table entry of a number. -/
def SessionControl.window (c : SessionControl) (w : Nat) : Window := c.windows.getD w Window.unloaded

/-- Session Control with one window changed. -/
def SessionControl.modifyWindow (c : SessionControl) (w : Nat) (f : Window → Window) : SessionControl :=
  { c with windows := c.windows.modify w f }

/-- The source map (R26): the enabled track that names a lane, and the role in which it names it. -/
def sourceOf (tracks : List Track) (src : Source) : Option (Nat × Role) :=
  (List.range tracks.length).findSome? fun t =>
    match tracks[t]? with
    | none => none
    | some x =>
      if x.record.enabled then
        if x.record.primary == some src then some (t, .primary)
        else if x.record.alternate == some src then some (t, .alternate)
        else none
      else none

/-- A lane that an enabled track names (Section 1.1). -/
def isSourceLane (tracks : List Track) (src : Source) : Bool := (sourceOf tracks src).isSome

/-- The number of enabled tracks (R40). -/
def enabledCount (tracks : List Track) : Nat := tracks.countP fun t => t.record.enabled

/-- Data segment `n` of the segment table (R99). -/
def ArchiveWriter.segment (w : ArchiveWriter) (n : Nat) : Option Segment :=
  if n = 0 then none else w.segments[n - 1]?

/-- The Archive Writer with one data segment changed. -/
def ArchiveWriter.modifySegment (w : ArchiveWriter) (n : Nat) (f : Segment → Segment) : ArchiveWriter :=
  if n = 0 then w else { w with segments := w.segments.modify (n - 1) f }

/-- The FREE count (R99). -/
def ArchiveWriter.freeCount (w : ArchiveWriter) : Nat := w.segments.countP fun x => x.state == .free

/-- The number of the lowest data segment that satisfies `p`. -/
def ArchiveWriter.lowest (w : ArchiveWriter) (p : Segment → Bool) : Option Nat :=
  (w.segments.findIdx? p).map (· + 1)

/-- The OPEN segment, if any (R99). -/
def ArchiveWriter.openSegment (w : ArchiveWriter) : Option Nat := w.lowest fun x => x.state == .opened

/-- The write position (R103): the end of the frames placed in the OPEN segment. -/
def ArchiveWriter.writePosition (w : ArchiveWriter) : Option Nat :=
  w.openSegment.bind fun n => (w.segment n).map fun x => x.used

/-- Bytes in the staging store (R89). -/
def stagingSize : Nat := 393216

/-- Bytes the staged entries occupy (R89). -/
def ArchiveWriter.staged (w : ArchiveWriter) : Nat := (w.staging.map fun e => e.bytes.length).sum

/-- The FILLED count of a stream (R116). -/
def Stream.filledCount (x : Stream) : Nat := x.slots.countP fun k => k.state == .filled

/-- The FILLING slot of a stream, if any (R118). -/
def Stream.fillingSlot (x : Stream) : Option Nat := x.slots.findIdx? fun k => k.state == .filling

/-- FILLED slots whose concealed flag is set; the stream is flawed-present while there is one (R127). -/
def Stream.flawedCount (x : Stream) : Nat := x.slots.countP fun k => k.state == .filled && k.concealed

end Sys2Proof.Machine
end

