-- ==== Sys2Proof/Machine/Sources.lean ====
section
/-! DEFINITION. Track status and the absent count at a frame close (R33 to R36), window liveness (R22), and what
Start and the resets leave of both (R7, R14, R37). -/

namespace Sys2Proof.Machine

/-! ### Tracks -/

/-- Run counts saturate at 255 (R33). -/
def maxRun : Nat := 255

/-- R28 step 3, R33: a track after one of its blocks won. -/
def Track.win (x : Track) (role : Role) : Track :=
  { x with
    alternateWins := if role == .alternate then satInc x.alternateWins else x.alternateWins
    status := match x.status with
      | .waiting => .active
      | .lost => .active
      | .active => .active
      | .idle => .idle }

/-- R33: the TRACK_BACK record of a winning block; `x` is the track before it. -/
def Track.backRecords (x : Track) (t g : Nat) (role : Role) : List Record :=
  if x.status == .lost then [⟨.trackBack, t, some g, role.code, x.run⟩] else []

/-- R30: a track after a second copy was compared. -/
def Track.compare (x : Track) (equal : Bool) : Track :=
  { x with
    compared := satInc x.compared
    disagreements := if equal then x.disagreements else satInc x.disagreements }

/-- R34: an absent track before the change to LOST is judged. -/
def Track.miss (x : Track) : Track :=
  { x with absentFrames := satInc x.absentFrames, run := min (x.run + 1) maxRun, last := none }

/-- R34: the three conditions under which a track that missed a frame becomes LOST. -/
def Track.loses (x : Track) (winsElsewhere : Bool) : Bool :=
  x.status == .active && decide (x.record.lossLimit ≤ x.run) && !winsElsewhere

/-- R34: an enabled track at the close of a frame that it won by `won`, or missed. -/
def Track.close (x : Track) (won : Option Role) (winsElsewhere : Bool) : Track :=
  match won with
  | some r => { x with run := 0, last := some r }
  | none => if x.miss.loses winsElsewhere then { x.miss with status := .lost } else x.miss

/-- R34: the TRACK_LOST record of that close. -/
def Track.lostRecords (x : Track) (t g : Nat) (won : Option Role) (winsElsewhere : Bool) : List Record :=
  match won with
  | some _ => []
  | none =>
    if x.miss.loses winsElsewhere then [⟨.trackLost, t, some g, x.record.lossLimit, x.miss.absentFrames⟩] else []

/-- The role by which a track won a frame. -/
def Frame.wonBy (f : Frame) (t : Nat) : Option Role := (f.winner t).map fun w => w.role

/-- R34: the tracks from number `t` on at the close of `f`; `held` are the frames still open. -/
def closeTracks (f : Frame) (held : List Frame) : Nat → List Track → List Track
  | _, [] => []
  | t, x :: xs =>
    (if x.record.enabled then x.close (f.wonBy t) (held.any fun h => (h.winner t).isSome) else x)
      :: closeTracks f held (t + 1) xs

/-- R34: the records of that evaluation. DESIGN CHOICE (assumption 25): in track number order. -/
def closeTrackRecords (f : Frame) (held : List Frame) : Nat → List Track → List Record
  | _, [] => []
  | t, x :: xs =>
    (if x.record.enabled then
      x.lostRecords t f.number (f.wonBy t) (held.any fun h => (h.winner t).isSome) else [])
      ++ closeTrackRecords f held (t + 1) xs

/-- R35: the enabled tracks, from number `t` on, that are absent in `f`. -/
def absentCount (f : Frame) : Nat → List Track → Nat
  | _, [] => 0
  | t, x :: xs => (if x.record.enabled && (f.winner t).isNone then 1 else 0) + absentCount f (t + 1) xs

/-- Start for a track (R33, R36, R38). -/
def Track.startSession (x : Track) : Track :=
  ⟨x.record, if x.record.enabled then .waiting else .idle, 0, none, 0, 0, 0, 0⟩

/-- The end of a session for a track (R37). -/
def Track.endSession (x : Track) : Track := { x with status := .idle }

/-- A path reset or a pinned Restart (R36, R37). -/
def Track.resetKept (x : Track) : Track := { x with status := .idle, run := 0, last := none }

/-! ### Windows -/

/-- A window has at least one source lane (R22). -/
def hasSourceLane (tracks : List Track) (w : Nat) : Bool :=
  tracks.any fun x => x.record.enabled &&
    ((x.record.primary.map fun p => p.window) == some w || (x.record.alternate.map fun p => p.window) == some w)

/-- R22: one of the window's blocks completed in the frame. -/
def Frame.heard (f : Frame) (w : Nat) : Bool := f.completed.any fun p => p.window == w

/-- R22: a loaded window with a source lane at the close of a frame. -/
def Window.close (x : Window) (liveLimit : Nat) (heard : Bool) : Window :=
  if heard then
    { x with
      missed := 0
      liveness := .live
      changed := x.changed || x.liveness == .lost }
  else
    let missed := min (x.missed + 1) maxRun
    if x.liveness == .live && decide (liveLimit ≤ missed) then
      { x with missed := missed, liveness := .lost, changed := true }
    else { x with missed := missed }

/-- R22: the WINDOW_LOST or WINDOW_BACK record of that close. -/
def Window.closeRecords (x : Window) (liveLimit : Nat) (heard : Bool) (w g : Nat) : List Record :=
  if heard then
    if x.liveness == .lost then [⟨.windowBack, w, some g, 0, 0⟩] else []
  else if x.liveness == .live && decide (liveLimit ≤ min (x.missed + 1) maxRun) then
    [⟨.windowLost, w, some g, liveLimit, 0⟩]
  else []

/-- R22: the windows from number `w` on at the close of `f`. -/
def closeWindows (tracks : List Track) (f : Frame) : Nat → List Window → List Window
  | _, [] => []
  | w, x :: xs =>
    (match x.record with
      | some r => if hasSourceLane tracks w then x.close r.liveLimit (f.heard w) else x
      | none => x) :: closeWindows tracks f (w + 1) xs

/-- R22: the records of that evaluation. DESIGN CHOICE (assumption 25): in window number order. -/
def closeWindowRecords (tracks : List Track) (f : Frame) : Nat → List Window → List Record
  | _, [] => []
  | w, x :: xs =>
    (match x.record with
      | some r => if hasSourceLane tracks w then x.closeRecords r.liveLimit (f.heard w) w f.number else []
      | none => []) ++ closeWindowRecords tracks f (w + 1) xs

/-- Start for a window (R7, R17, R24). DESIGN CHOICE (assumption 24): R7 speaks of loaded windows only, and an unloaded
number keeps the rest of what it holds. -/
def Window.startSession (x : Window) : Window :=
  match x.record with
  | some _ => { Window.unloaded with record := x.record, strayArmed := true }
  | none => { x with counts := WindowCounters.zero, strayArmed := true }

/-- A path reset or a pinned Restart (R14). -/
def Window.resetKept (x : Window) : Window := { x with anchor := 0, reference := none, anchored := true }

/-- An unpinned Restart: a loaded window is emptied, with its counters and liveness (R14). -/
def Window.resetUnpinned (x : Window) : Window :=
  match x.record with
  | some _ => Window.unloaded
  | none => x.resetKept

end Sys2Proof.Machine
end

