-- ==== Sys2Proof/Machine/Samples.lean ====
section
/-! DEFINITION. Samples and the block CRC (R3, R29). -/

namespace Sys2Proof.Machine

/-- Three bytes as a 24-bit little-endian two's-complement value (R3). -/
def sample24 (a b c : Byte) : Int := (BitVec.ofNat 24 (leValue [a, b, c])).toInt

/-- R3: the samples of a block, one for each 32-bit container. -/
def samplesOf (format : Format) : List Byte → List Int
  | a :: b :: c :: d :: rest =>
    (match format with
      | .left => sample24 b c d
      | .right => sample24 a b c) :: samplesOf format rest
  | _ => []

/-- The three bytes of a sample, least significant first (R29, R87). -/
def sampleBytes24 (x : Int) : List Byte := leBytes 3 (signedField 24 x)

/-- The CRC input of a block, which is also a VERBATIM payload (R29, R87). -/
def blockBytes (samples : List Int) : List Byte := samples.flatMap sampleBytes24

/-- One step of the CRC register (R29, step 3). -/
def crcStep (r : BitVec 32) : BitVec 32 := if r.getLsbD 0 then (r >>> 1) ^^^ 0xEDB88320#32 else r >>> 1

/-- One input byte (R29, steps 2 and 3). -/
def crcByte (r : BitVec 32) (b : Byte) : BitVec 32 := Nat.iterate crcStep 8 (r ^^^ b.setWidth 32)

/-- CRC-32 of bytes (R29). -/
def crc32 (bytes : List Byte) : BitVec 32 := ~~~ (bytes.foldl crcByte 0xFFFFFFFF#32)

/-- The block CRC (R29). -/
def blockCrc (samples : List Int) : BitVec 32 := crc32 (blockBytes samples)

end Sys2Proof.Machine
end

