-- ==== Sys2Proof/Machine/Coding.lean ====
section
/-! DEFINITION. The Archive Coder: prediction, order choice, mapping, Rice coding, packing and the verbatim fallback
(R80 to R88). -/

namespace Sys2Proof.Machine

/-- The order-p prediction from the samples before it, newest first (R80). -/
def predict (p : Nat) (before : List Int) : Int :=
  let a := before.getD 0 0
  let b := before.getD 1 0
  let c := before.getD 2 0
  match p with
  | 0 => 0
  | 1 => a
  | 2 => 2 * a - b
  | _ => 3 * a - 3 * b + c

/-- The order-p residuals of samples, given those before them, newest first (R80). -/
def residualsAfter (p : Nat) : List Int → List Int → List Int
  | _, [] => []
  | before, x :: xs => (x - predict p before) :: residualsAfter p (x :: before) xs

/-- The residuals e_p[n] for n from `start` on (R80); `start` is at least p. -/
def residualsFrom (p start : Nat) (samples : List Int) : List Int :=
  residualsAfter p (samples.take start).reverse (samples.drop start)

/-- The sum of the magnitudes. -/
def magnitudeSum (xs : List Int) : Nat := (xs.map Int.natAbs).sum

/-- cost_p (R81). -/
def orderCost (p : Nat) (samples : List Int) : Nat := magnitudeSum (residualsFrom p 3 samples)

/-- The order with the least cost, the lowest where several share it (R81). -/
def chooseOrder (samples : List Int) : Nat :=
  [1, 2, 3].foldl (fun best p => if orderCost p samples < orderCost best samples then p else best) 0

/-- R82: a residual as an unsigned value. -/
def mapResidual (e : Int) : Nat := if 0 ≤ e then (2 * e).toNat else (-2 * e - 1).toNat

/-- R83: the Rice parameter from the count and the sum of the mapped values. -/
def riceParameter (m u : Nat) : Nat :=
  if u < m then 0 else (List.range 27).foldl (fun best k => if m * 2 ^ k ≤ u then k else best) 0

/-- The low `w` bits of `v`, most significant first. -/
def natBits (w v : Nat) : List Bool := (List.range w).map fun i => v.testBit (w - 1 - i)

/-- Whether u takes the escape code (R85). -/
def isEscape (k u : Nat) : Bool := decide (32 ≤ u / 2 ^ k)

/-- R85: the code of one mapped value. -/
def riceCode (k u : Nat) : List Bool :=
  if isEscape k u then List.replicate 32 true ++ natBits 27 u
  else List.replicate (u / 2 ^ k) true ++ [false] ++ natBits k u

/-- R84, R85: the bit string of a block with order p and parameter k. -/
def bitString (p k : Nat) (samples : List Int) : List Bool :=
  (samples.take p).flatMap (fun x => natBits 24 (signedField 24 x))
    ++ (residualsFrom p p samples).flatMap fun e => riceCode k (mapResidual e)

/-- Bits, the first most significant, as a number. -/
def bitsValue (bits : List Bool) : Nat := bits.foldl (fun n b => 2 * n + b.toNat) 0

/-- Word `j` of a packed bit string, completed with zero-bits (R86). -/
def packedWord (bits : List Bool) (j : Nat) : Nat :=
  let w := (bits.drop (32 * j)).take 32
  bitsValue (w ++ List.replicate (32 - w.length) false)

/-- R86: the packed payload. -/
def packBits (bits : List Bool) : List Byte :=
  (List.range ((bits.length + 31) / 32)).flatMap fun j => leBytes 4 (packedWord bits j)

/-- What the coder makes of a block (R87, R88). -/
structure CodedBlock where
  verbatim : Bool
  order : Nat
  parameter : Nat
  bitLength : Nat
  payload : List Byte
  /-- Escape codes in a CODED payload (R94). -/
  escapes : Nat
  deriving DecidableEq, Repr

/-- R80 to R87: the coded or verbatim form of a block. -/
def codeBlock (samples : List Int) : CodedBlock :=
  let p := chooseOrder samples
  let us := (residualsFrom p p samples).map mapResidual
  let k := riceParameter us.length us.sum
  let bits := bitString p k samples
  if 24 * samples.length < bits.length then ⟨true, 0, 0, 24 * samples.length, blockBytes samples, 0⟩
  else ⟨false, p, k, bits.length, packBits bits, us.countP fun u => isEscape k u⟩

/-- Track entry kind codes (R170): 1 CODED, 2 VERBATIM, 3 ABSENT. -/
def entryHeader (track kind order parameter bitLength payloadLength crc : Nat) : List Byte :=
  leBytes 1 track ++ leBytes 1 kind ++ leBytes 1 order ++ leBytes 1 parameter ++ leBytes 2 bitLength
    ++ leBytes 2 payloadLength ++ leBytes 4 crc ++ leBytes 4 0

/-- R88, R174: a track entry, header and payload. -/
def trackEntry (track : Nat) (c : CodedBlock) (crc : BitVec 32) : List Byte :=
  entryHeader track (if c.verbatim then 2 else 1) c.order c.parameter c.bitLength c.payload.length crc.toNat
    ++ c.payload

/-- R102, R174: the entry of a track without a winner. -/
def absentEntry (track : Nat) : List Byte := entryHeader track 3 0 0 0 0 0

end Sys2Proof.Machine
end

