-- ==== Sys2Proof/Machine/Geometry.lean ====
section
/-! DEFINITION. The regions of the Window Decoder (R134), their extents and their overlap (R2, R7, R96, R116, R145,
R164), and the guard set (R135). -/

namespace Sys2Proof.Machine

/-- An extent of memory. -/
structure Region where
  base : Nat
  length : Nat
  deriving DecidableEq, Repr

/-- The region holds the byte at `addr`. -/
def Region.contains (r : Region) (addr : Nat) : Bool := decide (r.base ≤ addr) && decide (addr < r.base + r.length)

/-- Two regions share a byte. -/
def Region.overlaps (a b : Region) : Bool :=
  decide (a.base < b.base + b.length) && decide (b.base < a.base + a.length)

/-- The top of the 40-bit address space. -/
def addressTop : Nat := 1099511627776

/-- 4 KiB. -/
def pageSize : Nat := 4096

/-! ### The Command Area (R145) -/

/-- The base of the Command Area (R145). -/
def Straps.commandBase (x : Straps) : Nat := x.baseSel.toNat * 16777216

/-- The Command Slot (R145). -/
def Straps.commandSlot (x : Straps) : Region := ⟨x.commandBase, 1024⟩

/-- The Response Slot (R145). -/
def Straps.responseSlot (x : Straps) : Region := ⟨x.commandBase + 1024, 1024⟩

/-- The whole Command Area (R145). -/
def Straps.commandArea (x : Straps) : Region := ⟨x.commandBase, 2048⟩

/-! ### Windows (R2) -/

/-- The bytes a window occupies with block size `n` (R2). -/
def WindowRecord.length (r : WindowRecord) (n : Nat) : Nat := r.slots * r.lanes * (4 * n)

/-- The extent of a window (R2). -/
def WindowRecord.region (r : WindowRecord) (n : Nat) : Region := ⟨r.base, r.length n⟩

/-- The extent of a window's mirror target (R134). -/
def WindowRecord.mirrorRegion (r : WindowRecord) (n : Nat) : Option Region := r.mirror.map fun b => ⟨b, r.length n⟩

/-- Where a line of a window lies (R2): slot, lane and line index. -/
structure WindowPlace where
  slot : Nat
  lane : Nat
  line : Nat
  deriving DecidableEq, Repr

/-- R2: the slot, lane and line index of the line at `addr`. -/
def WindowRecord.place (r : WindowRecord) (n addr : Nat) : WindowPlace :=
  let block := (addr - r.base) / (4 * n)
  ⟨block / r.lanes, block % r.lanes, (addr - r.base) % (4 * n) / 64⟩

/-! ### The Archive Area (R96) -/

/-- The segment size in bytes (R96). -/
def Area.segmentBytes (a : Area) : Nat := a.sizeMiB * 1048576

/-- The extent of the Archive Area (R96). -/
def Area.region (a : Area) : Region := ⟨a.base, a.count * a.segmentBytes⟩

/-- The segment that holds `addr` (R96). -/
def Area.segmentOf (a : Area) (addr : Nat) : Nat := (addr - a.base) / a.segmentBytes

/-- The first byte of a segment (R96). -/
def Area.segmentBase (a : Area) (n : Nat) : Nat := a.base + n * a.segmentBytes

end Sys2Proof.Machine

namespace Sys2Proof

/-! ### Stream rings (R116) -/

/-- An enabled stream record (R114). -/
def StreamBody.isEnabled (b : StreamBody) : Bool := b.enabled == 1

/-- Bytes of a sample: 2 in S16, 4 in S24 (R116). -/
def StreamBody.sampleBytes (b : StreamBody) : Nat := if b.width == 0 then 2 else 4

/-- The payload bytes of a stream frame (R116). -/
def StreamBody.payloadBytes (b : StreamBody) (n : Nat) : Nat := n * b.busCount.toNat * b.sampleBytes

/-- The slot size (R116). -/
def StreamBody.slotSize (b : StreamBody) (n : Nat) : Nat := 64 + b.payloadBytes n

/-- The lines of a slot (R116). -/
def StreamBody.slotLines (b : StreamBody) (n : Nat) : Nat := b.slotSize n / 64

/-- The extent of a ring (R116). -/
def StreamBody.region (b : StreamBody) (n : Nat) : Machine.Region := ⟨b.base.toNat, b.slotCount.toNat * b.slotSize n⟩

/-- The bus list: the first bus-count fields (R115). -/
def StreamBody.busList (b : StreamBody) : List Nat :=
  (List.range b.busCount.toNat).map fun k => (b.buses.toNat / 256 ^ k) % 256

end Sys2Proof

namespace Sys2Proof.Machine

/-- The record of a stream that is configured and enabled (R114). -/
def Stream.enabledRecord (x : Stream) : Option StreamBody := x.record.filter fun b => b.isEnabled

/-! ### The report ring (R164) -/

/-- The extent of a report ring (R164). -/
def reportRegion (base count : Nat) : Region := ⟨base, 32 * count⟩

/-! ### The region table -/

/-- The regions Start checks, but for the report ring (R7, check 4). -/
def State.regionsButReports (s : State) : List Region :=
  let n := s.sess.blockSize
  let records := s.sess.windows.filterMap fun w => w.record
  [s.straps.commandArea]
    ++ records.map (fun r => r.region n)
    ++ records.filterMap (fun r => r.mirrorRegion n)
    ++ (s.aw.area.map fun a => a.region).toList
    ++ s.sw.streams.filterMap (fun x => x.enabledRecord.map fun b => b.region n)

/-- Every configured region (R7, check 4). -/
def State.regions (s : State) : List Region :=
  s.regionsButReports ++ (s.rw.settings.map fun c => reportRegion c.base c.count).toList

/-- Two of the regions overlap. -/
def anyOverlap : List Region → Bool
  | [] => false
  | r :: rs => rs.any (fun x => r.overlaps x) || anyOverlap rs

/-- The windows that hold a line (R134). -/
def SessionControl.windowsAt (c : SessionControl) (addr : Nat) : List Nat :=
  (List.range c.windows.length).filter fun w =>
    match (c.window w).record with
    | some r => (r.region c.blockSize).contains addr
    | none => false

/-- The enabled streams whose ring holds a line (R134). -/
def State.streamsAt (s : State) (addr : Nat) : List Nat :=
  (List.range s.sw.streams.length).filter fun k =>
    match (s.sw.streams.getD k Stream.reset).enabledRecord with
    | some b => (b.region s.sess.blockSize).contains addr
    | none => false

/-! ### The guard set (R100, R135) -/

/-- Target number of the Response Slot in a GUARD_REFUSAL record (R136). -/
def responseTarget : Nat := 0xFFFF

/-- The archive segment that guards the line, if the line is in the archive's guard set (R100). -/
def ArchiveWriter.guards (w : ArchiveWriter) (addr : Nat) : Option Nat :=
  match w.area with
  | none => none
  | some a =>
    if a.region.contains addr then
      let n := a.segmentOf addr
      if n = 0 then some 0
      else match w.segment n with
        | some x => if x.state == .free then none else some n
        | none => none
    else none

/-- What the guard set of R135 says of a line: none outside it, else the target of the refusal. -/
def State.guardTarget (s : State) (addr : Nat) : Option Nat :=
  if s.straps.passOnly then none
  else if s.straps.responseSlot.contains addr then some responseTarget
  else s.aw.guards addr

end Sys2Proof.Machine
end

