-- ==== Sys2Proof/Machine/Archive.lean ====
section
/-! DEFINITION. The Archive Writer: staging, segments, the Segment Directory, placement, the output list, the space
warning, release and resets (R89 to R113). -/

namespace Sys2Proof.Machine

/-- What the headers of a session's frames carry of the session (R102, R117). -/
structure FrameInfo where
  serial : Nat
  blockSize : Nat
  rateCode : Nat
  deriving DecidableEq, Repr

/-- The session's values as Session Control holds them. -/
def SessionControl.info (c : SessionControl) : FrameInfo :=
  ⟨c.serial, c.blockSize, match c.record with
    | some r => r.rate.code
    | none => 0⟩

/-! ### Directory lines (R101, R175) -/

/-- R175: the directory header line. -/
def directoryHeader (a : Area) : List Byte :=
  padTo lineSize ([0x5A, 0x4B, 0x44, 0x48] ++ leBytes 1 a.sizeMiB ++ [0] ++ leBytes 2 a.count ++ leBytes 2 a.low
    ++ leBytes 2 a.high ++ leBytes 4 0 ++ leBytes 8 a.base)

/-- R101, R175: the directory record of segment `n` with its update serial. -/
def directoryRecord (n : Nat) (x : Segment) (serial : Nat) : List Byte :=
  padTo lineSize (leBytes 2 n ++ leBytes 1 x.state.code ++
    (match x.state with
      | .free => leBytes 1 0 ++ leBytes 4 0 ++ leBytes 4 0 ++ leBytes 4 0 ++ leBytes 4 0 ++ leBytes 4 0
      | .opened => leBytes 1 0 ++ leBytes 4 x.serial ++ leBytes 4 x.first ++ leBytes 4 0 ++ leBytes 4 0 ++ leBytes 4 0
      | .closed => leBytes 1 x.cause.code ++ leBytes 4 x.serial ++ leBytes 4 x.first ++ leBytes 4 x.last
          ++ leBytes 4 x.count ++ leBytes 4 x.used)
    ++ leBytes 4 serial)

/-- R101, R105: the directory header line of the configured area joins the output list. -/
def ArchiveWriter.appendHeader (w : ArchiveWriter) : ArchiveWriter :=
  match w.area with
  | some a => { w with out := w.out ++ [.directory a.base (directoryHeader a) .directoryHeader] }
  | none => w

/-- R101, R105: the directory record of segment `n` joins the output list with the next update serial. -/
def ArchiveWriter.appendRecord (w : ArchiveWriter) (n : Nat) : ArchiveWriter :=
  match w.area, w.segment n with
  | some a, some x =>
    { w.modifySegment n (fun x => { x with updateSerial := satInc w.updateSerial }) with
      updateSerial := satInc w.updateSerial
      out := w.out ++ [.directory (a.base + 64 * n) (directoryRecord n x (satInc w.updateSerial))
        (.directoryRecord n x.state)] }
  | _, _ => w

/-- The line is the directory record of segment `n`. -/
def Note.isRecordOf (n : Nat) : Note → Bool
  | .directoryRecord m _ => m == n
  | _ => false

/-- The line is the directory header. -/
def Note.isHeader : Note → Bool
  | .directoryHeader => true
  | _ => false

/-- The directory line notes that wait in the output list or in the Archive queue. -/
def ArchiveWriter.directoryNotes (w : ArchiveWriter) (queue : List Inserted) : List Note :=
  w.out.filterMap (fun o => match o with
    | .directory _ _ note => some note
    | .frame _ => none) ++ queue.map fun l => l.note

/-- The directory pending flag of segment `n` (R101): a record of it has been appended and not yet forwarded. -/
def ArchiveWriter.recordPending (w : ArchiveWriter) (queue : List Inserted) (n : Nat) : Bool :=
  (w.directoryNotes queue).any (Note.isRecordOf n)

/-- The pending flag of the directory header (R101). -/
def ArchiveWriter.headerPending (w : ArchiveWriter) (queue : List Inserted) : Bool :=
  (w.directoryNotes queue).any Note.isHeader

/-! ### The space warning (R108) -/

/-- R108: the warning after the FREE count has changed. -/
def ArchiveWriter.evaluateWarning (w : ArchiveWriter) : ArchiveWriter :=
  match w.area with
  | none => w
  | some a =>
    { w with warning :=
        if w.warning then !decide (a.high ≤ w.freeCount) else decide (w.freeCount ≤ a.low) }

/-- R108: the record of that evaluation; `w` is the Archive Writer before it. -/
def ArchiveWriter.warningRecords (w : ArchiveWriter) (newest : Option Nat) : List Record :=
  match w.area with
  | none => []
  | some a =>
    if w.warning then
      if a.high ≤ w.freeCount then [⟨.spaceOk, a.count, newest, w.freeCount, a.high⟩] else []
    else if w.freeCount ≤ a.low then [⟨.spaceLow, a.count, newest, w.freeCount, a.low⟩] else []

/-! ### Segments (R99, R103, R106, R109) -/

/-- A FREE segment (R97, R101). -/
def Segment.fresh : Segment := ⟨.free, true, .none, 0, 0, 0, 0, 0, 0, 0, 0, 0⟩

/-- R103, case 3: segment `n` opens for frame `g`. -/
def ArchiveWriter.openAt (w : ArchiveWriter) (n g serial : Nat) : ArchiveWriter :=
  let v := (w.modifySegment n fun x =>
    { x with state := .opened, settled := true, cause := .none, serial := serial, first := g, last := 0, count := 0,
             used := 0, forwardedLast := 0, forwardedCount := 0, forwardedUsed := 0 }).appendRecord n
  { v with full := false, counters := { v.counters with opened := satInc v.counters.opened } }

/-- R99, R103, R109: the OPEN segment `n` becomes CLOSED, unsettled, and its record is appended. -/
def ArchiveWriter.closeAt (w : ArchiveWriter) (n : Nat) (cause : CloseCause) : ArchiveWriter :=
  let v := (w.modifySegment n fun x => { x with state := .closed, settled := false, cause := cause }).appendRecord n
  { v with counters := { v.counters with closed := satInc v.counters.closed } }

/-- R106: a settled CLOSED segment returns to FREE and its record is appended; the warning is not yet evaluated. -/
def ArchiveWriter.freeAt (w : ArchiveWriter) (n : Nat) : ArchiveWriter :=
  (w.modifySegment n fun x => { Segment.fresh with updateSerial := x.updateSerial }).appendRecord n

/-- R99: the segment settles. -/
def ArchiveWriter.settle (w : ArchiveWriter) (n : Nat) : ArchiveWriter :=
  { w.modifySegment n (fun x => { x with settled := true }) with
    closing := if w.closing = some n then none else w.closing }

/-- R99: the SEGMENT_CLOSED record of a segment that settles. -/
def ArchiveWriter.settleRecords (w : ArchiveWriter) (n : Nat) : List Record :=
  match w.segment n with
  | some x => [⟨.segmentClosed, n, some x.last, x.count, x.used⟩]
  | none => []

/-- The segment is CLOSED and not settled (R99). -/
def ArchiveWriter.isUnsettled (w : ArchiveWriter) (n : Nat) : Bool :=
  match w.segment n with
  | some x => x.state == .closed && !x.settled
  | none => false

/-! ### Staging (R89 to R91) -/

/-- The free space of the staging store (R89). -/
def ArchiveWriter.stagingFree (w : ArchiveWriter) : Nat := stagingSize - w.staged

/-- R89: every staged entry of frame `g` is released. -/
def ArchiveWriter.releaseFrame (w : ArchiveWriter) (g : Nat) : ArchiveWriter :=
  { w with staging := w.staging.filter fun e => e.frame != g }

/-- R90: whether an entry of `size` bytes fits. -/
def ArchiveWriter.fits (w : ArchiveWriter) (size : Nat) : Bool := decide (size ≤ w.stagingFree)

/-- R90, R94: an entry that fits is placed and counted. -/
def ArchiveWriter.stage (w : ArchiveWriter) (g track : Nat) (bytes : List Byte) (c : CodedBlock) : ArchiveWriter :=
  { w with
    staging := w.staging ++ [⟨g, track, bytes⟩]
    counters :=
      { w.counters with
        coded := if c.verbatim then w.counters.coded else satInc w.counters.coded
        verbatim := if c.verbatim then satInc w.counters.verbatim else w.counters.verbatim
        escapes := satAdd w.counters.escapes c.escapes
        stagingPeak := max w.counters.stagingPeak (w.staged + bytes.length) } }

/-- R91: frame `g` is given up for staging. -/
def ArchiveWriter.dropStaging (w : ArchiveWriter) (g : Nat) : ArchiveWriter :=
  { w.releaseFrame g with
    counters := { w.counters with stagingDrops := satInc w.counters.stagingDrops } }

/-- The staged entry of a track for a frame. -/
def ArchiveWriter.entry (w : ArchiveWriter) (g track : Nat) : List Byte :=
  match w.staging.find? fun e => e.frame == g && e.track == track with
  | some e => e.bytes
  | none => []

/-! ### Archive frames (R102 to R104) -/

/-- R102: what the archive frame of a closed frame holds for each listed track, in release order. -/
def ArchiveWriter.parts (w : ArchiveWriter) (f : Frame) : List EntryRef :=
  w.releaseOrder.map fun t =>
    match f.winner t with
    | some _ => .staged t (w.entry f.number t).length
    | none => .absent t

/-- Bytes of an entry in its archive frame. -/
def EntryRef.size : EntryRef → Nat
  | .staged _ n => n
  | .absent _ => 16

/-- The next multiple of 64. -/
def roundUp64 (n : Nat) : Nat := (n + 63) / 64 * 64

/-- The padded length of an archive frame (R102). -/
def frameLength (parts : List EntryRef) : Nat := roundUp64 (32 + (parts.map EntryRef.size).sum)

/-- R102, R174: the archive frame header. -/
def archiveHeader (info : FrameInfo) (g : Nat) (discontinuity : Bool) (entries absent length : Nat) : List Byte :=
  padTo 32 ([0x5A, 0x4B, 0x41, 0x46] ++ leBytes 4 g ++ leBytes 4 info.serial ++ leBytes 2 info.blockSize
    ++ leBytes 1 info.rateCode ++ flagByte discontinuity ++ leBytes 2 entries ++ leBytes 2 absent ++ leBytes 4 length)

/-- R103, case 1: the archive frame of `f` is placed at the write position of segment `n`. -/
def ArchiveWriter.placeIn (w : ArchiveWriter) (info : FrameInfo) (f : Frame) (parts : List EntryRef) (n : Nat) :
    ArchiveWriter :=
  match w.area, w.segment n with
  | some a, some x =>
    let len := frameLength parts
    let header := archiveHeader info f.number (f.discontinuity || w.pendingDiscontinuity) parts.length
      (f.absent.getD 0) len
    { w.modifySegment n (fun x => { x with last := f.number, count := x.count + 1, used := x.used + len }) with
      out := w.out ++ [.frame ⟨f.number, n, a.segmentBase n + x.used, len, 0, header, parts, x.count + 1, x.used + len⟩]
      pendingDiscontinuity := false
      counters :=
        { w.counters with
          placed := satInc w.counters.placed
          bytesPlaced := satAdd w.counters.bytesPlaced len } }
  | _, _ => w

/-- R104: the frame is dropped for want of a segment. -/
def ArchiveWriter.dropFull (w : ArchiveWriter) (g : Nat) : ArchiveWriter :=
  { w.releaseFrame g with
    full := true
    pendingDiscontinuity := true
    counters := { w.counters with fullDrops := satInc w.counters.fullDrops } }

/-- R104: the ARCHIVE_FULL record; `w` is the Archive Writer before the drop. -/
def ArchiveWriter.fullRecords (w : ArchiveWriter) (g : Nat) : List Record :=
  if w.full then []
  else [⟨.archiveFull, (w.area.map fun a => a.count).getD 0, some g, w.freeCount, satInc w.counters.fullDrops⟩]

/-- R103, cases 3 and 4: placement with no segment OPEN. -/
def ArchiveWriter.placeFresh (w : ArchiveWriter) (info : FrameInfo) (f : Frame) (parts : List EntryRef)
    (newest : Option Nat) : ArchiveWriter × List Record :=
  match w.lowest fun x => x.state == .free with
  | some n =>
    let v := w.openAt n f.number info.serial
    (v.evaluateWarning.placeIn info f parts n, v.warningRecords newest)
  | none => (w.dropFull f.number, w.fullRecords f.number)

/-- R103: placement of the archive frame of `f`. -/
def ArchiveWriter.place (w : ArchiveWriter) (info : FrameInfo) (f : Frame) (newest : Option Nat) :
    ArchiveWriter × List Record :=
  let parts := w.parts f
  match w.openSegment, w.area with
  | some n, some a =>
    if (w.writePosition.getD 0) + frameLength parts ≤ a.segmentBytes then (w.placeIn info f parts n, [])
    else (w.closeAt n .rolled).placeFresh info f parts newest
  | _, _ => w.placeFresh info f parts newest

/-- R92, R102: the take of a closed frame. -/
def ArchiveWriter.takeFrame (w : ArchiveWriter) (info : FrameInfo) (f : Frame) (newest : Option Nat) :
    ArchiveWriter × List Record :=
  if !w.archiving then (w, [])
  else
    match f.drop with
    | some d =>
      ({ w with pendingDiscontinuity := true },
        [⟨.archiveDrop, d.track, some f.number, d.size, w.counters.stagingDrops⟩])
    | none => w.place info f newest

/-! ### The output list (R105) -/

/-- The end offset in its archive frame of each staged entry, by track. -/
def stagedEnds : Nat → List EntryRef → List (Nat × Nat)
  | _, [] => []
  | at0, .staged t n :: rest => (t, at0 + n) :: stagedEnds (at0 + n) rest
  | at0, .absent _ :: rest => stagedEnds (at0 + 16) rest

/-- The bytes of an archive frame without its padding (R102). -/
def ArchiveWriter.frameBytes (w : ArchiveWriter) (i : FrameItem) : List Byte :=
  i.header ++ i.parts.flatMap fun p =>
    match p with
    | .staged t n => padTo n (w.entry i.frame t)
    | .absent t => absentEntry t

/-- A line ready to enter the Archive queue (R105). -/
structure ArchiveLine where
  addr : Nat
  data : List Byte
  note : Note
  deriving DecidableEq, Repr

/-- R105: the line at the head of the output list, as it is built. -/
def ArchiveWriter.headLine (w : ArchiveWriter) : Option ArchiveLine :=
  match w.out with
  | [] => none
  | .directory addr data note :: _ => some ⟨addr, data, note⟩
  | .frame i :: _ =>
    some ⟨i.addr + i.offset, lineAt (w.frameBytes i) i.offset,
      if i.offset + 64 < i.length then .frameLine else .frameEnd i.segment i.frame i.count i.used⟩

/-- R89, R105: the Archive Writer once that line has been enqueued; the entries of which it held the last byte are
released. -/
def ArchiveWriter.dropHeadLine (w : ArchiveWriter) : ArchiveWriter :=
  match w.out with
  | [] => w
  | .directory _ _ _ :: rest => { w with out := rest }
  | .frame i :: rest =>
    let done := ((stagedEnds 32 i.parts).filter fun e => decide (e.2 ≤ i.offset + 64)).map fun e => e.1
    { w with
      staging := w.staging.filter fun e => !(e.frame == i.frame && done.contains e.track)
      out := if i.offset + 64 < i.length then .frame { i with offset := i.offset + 64 } :: rest else rest }

/-- R105: an archive frame has been forwarded whole; the OPEN segment's forwarded values. -/
def ArchiveWriter.frameForwarded (w : ArchiveWriter) (n g count used : Nat) : ArchiveWriter :=
  w.modifySegment n fun x =>
    if x.state == .opened then { x with forwardedLast := g, forwardedCount := count, forwardedUsed := used } else x

/-! ### Sessions, configuration and resets (R95, R97, R109, R110, R113) -/

/-- Start (R79, R94, R95, R112, R113). -/
def ArchiveWriter.startSession (w : ArchiveWriter) : ArchiveWriter :=
  { w with
    archiving := w.area.isSome && !w.releaseOrder.isEmpty
    full := false
    pendingDiscontinuity := false
    closing := none
    counters := ArchiveCounters.zero }

/-- R109: the session is ending by Stop; the OPEN segment closes with cause STOPPED. -/
def ArchiveWriter.stopSession (w : ArchiveWriter) : ArchiveWriter :=
  match w.openSegment with
  | some n => { w.closeAt n .stopped with closing := some n }
  | none => { w with closing := none }

/-- R109: the end of a session. -/
def ArchiveWriter.endSession (w : ArchiveWriter) : ArchiveWriter :=
  { w with archiving := false, full := false, closing := none }

/-- R97: an accepted SetArchive; the new directory lines join the output list behind what is still pending. -/
def ArchiveWriter.configure (w : ArchiveWriter) (a : Area) : ArchiveWriter :=
  let v := ArchiveWriter.appendHeader
    { w with
      area := some a
      segments := List.replicate (a.count - 1) Segment.fresh
      full := false
      warning := false
      updateSerial := 0 }
  ((List.range (a.count - 1)).foldl (fun v i => v.appendRecord (i + 1)) v).evaluateWarning

/-- R110, step 2: the OPEN segment closes with cause RESET and its forwarded values. -/
def Segment.closeByReset (x : Segment) : Segment :=
  { x with
    state := .closed, settled := false, cause := .reset
    last := x.forwardedLast, count := x.forwardedCount, used := x.forwardedUsed }

/-- R110: what a path reset or a pinned Restart does. `queue` is the Archive queue before the Path Unit discards it;
`always` says that the header is rewritten whether or not it is pending. -/
def ArchiveWriter.resetKept (w : ArchiveWriter) (queue : List Inserted) (always : Bool) : ArchiveWriter :=
  let others := (List.range w.segments.length).filterMap fun i =>
    if w.recordPending queue (i + 1) && w.openSegment != some (i + 1) then some (i + 1) else none
  let header := always || w.headerPending queue
  let v : ArchiveWriter :=
    { w with out := [], staging := [], archiving := false, full := false, closing := none }
  let v := if header then v.appendHeader else v
  let v := match w.openSegment with
    | some n =>
      let v := (v.modifySegment n Segment.closeByReset).appendRecord n
      { v with counters := { v.counters with closed := satInc v.counters.closed } }
    | none => v
  others.foldl (fun v n => v.appendRecord n) v

/-- R113: an unpinned Restart keeps the counters and nothing else. -/
def ArchiveWriter.resetUnpinned (w : ArchiveWriter) : ArchiveWriter :=
  { ArchiveWriter.reset with counters := w.counters }

end Sys2Proof.Machine
end

