-- ==== Sys2Proof/Machine/Mixing.lean ====
section
/-! DEFINITION. The arithmetic of the Mix Engine and of the stream samples: snapshots, ramps, accumulation, rounding,
saturation, mute scaling, dither (R62 to R76). -/

namespace Sys2Proof.Machine

/-- Unity gain (Section 4.1). -/
def unity : Int := 16384

/-- The mute gain of a mute setting (R57). -/
def muteGain (on : Bool) : Int := if on then 0 else unity

/-- The coefficient of a track in a bus list, if it is an input. -/
def coefficientOf (inputs : List BusInput) (track : Nat) : Option Int :=
  (inputs.find? fun i => i.track == track).map fun i => i.coefficient

/-- R62: the snapshot of one bus. -/
def Bus.snapshot (b : Bus) : BusSnapshot where
  inputs :=
    b.applied.map (fun i => ⟨i.track, i.coefficient, (coefficientOf b.target i.track).getD 0⟩)
      ++ (b.target.filter fun i => (coefficientOf b.applied i.track).isNone).map
        fun i => ⟨i.track, 0, i.coefficient⟩
  gain0 := muteGain b.muteApplied
  gain1 := muteGain b.muteTarget

/-- R63, R64: the Applied settings made equal to the Target settings. -/
def Bus.apply (b : Bus) : Bus := { b with applied := b.target, muteApplied := b.muteTarget }

/-- R65: c(n) = c0 + trunc((c1 − c0)(n + 1) / N). -/
def ramp (c0 c1 : Int) (blockSize n : Nat) : Int := c0 + Int.tdiv ((c1 - c0) * (n + 1)) blockSize

/-- R66: the products of one block added to the accumulators of one bus that holds the track. -/
def addProducts (blockSize : Nat) (input : SnapInput) (samples acc : List Int) : List Int :=
  (List.range blockSize).map fun n =>
    acc.getD n 0 + ramp input.c0 input.c1 blockSize n * samples.getD n 0

/-- R66: one bus's accumulators after a winning block of `track`. -/
def accumulateBus (blockSize track : Nat) (samples : List Int) (snap : BusSnapshot) (acc : List Int) : List Int :=
  match snap.inputs.find? fun i => i.track == track with
  | some i => addProducts blockSize i samples acc
  | none => acc

/-- R66: a frame's accumulators after a winning block of `track`. -/
def Frame.accumulate (f : Frame) (blockSize track : Nat) (samples : List Int) : Frame :=
  match f.snapshot with
  | some snaps => { f with accumulators := List.zipWith (accumulateBus blockSize track samples) snaps f.accumulators }
  | none => f

/-- A value saturated to [a, b] (00_scope.md, Arithmetic). -/
def saturate (a b x : Int) : Int := if x < a then a else if b < x then b else x

/-- The bus value of an accumulator before saturation (R68). -/
def roundAccumulator (a : Int) : Int := (a + 8192) / 16384

/-- R68: the 24-bit bus value of an accumulator. -/
def busValue (a : Int) : Int := saturate (-8388608) 8388607 (roundAccumulator a)

/-- R68: saturation changed the sample. -/
def isOver (a : Int) : Bool := busValue a != roundAccumulator a

/-- R70: the mute-scaled value. -/
def muteScale (y m : Int) : Int := (y * m + 8192) / 16384

/-- The finalised bus of a closed frame (R71). -/
structure FinalBus where
  values : List Int
  gains : List Int
  endGain : Int
  saturated : Bool
  deriving DecidableEq, Repr

/-- R68 to R70: one bus of a closed frame that opened. -/
def finalBus (blockSize : Nat) (snap : BusSnapshot) (acc : List Int) : FinalBus :=
  let gains := (List.range blockSize).map fun n => ramp snap.gain0 snap.gain1 blockSize n
  ⟨List.zipWith (fun a m => muteScale (busValue a) m) acc gains, gains, snap.gain1, acc.any isOver⟩

/-- R72: one bus of an empty frame. -/
def emptyBus (blockSize : Nat) (b : Bus) : FinalBus :=
  ⟨List.replicate blockSize 0, List.replicate blockSize (muteGain b.muteApplied), muteGain b.muteApplied, false⟩

/-- R69, R77: the meters of one bus after a frame with these accumulators. -/
def Bus.meter (b : Bus) (acc : List Int) : Bus :=
  let k := acc.countP isOver
  { b with
    peak := acc.foldl (fun m a => max m (busValue a).natAbs) b.peak
    overCount := satAdd b.overCount k
    overFrames := if k = 0 then b.overFrames else satInc b.overFrames }

/-- R69: the BUS_OVER record of bus `n`, `b` being the bus after its meters took the frame. -/
def busOverRecord (n frame : Nat) (acc : List Int) (b : Bus) : List Record :=
  if acc.countP isOver = 0 then [] else [⟨.busOver, n, some frame, acc.countP isOver, b.overCount⟩]

/-- R69, R77: the buses with their meters after a frame; the frame has one list of accumulators for each bus. -/
def meterBuses : List (List Int) → List Bus → List Bus
  | acc :: accs, b :: bs => b.meter acc :: meterBuses accs bs
  | [], bs => bs
  | _ :: _, [] => []

/-- R69: the BUS_OVER records from bus `n` on, in bus order; `buses` have taken the frame. -/
def busOverRecords (frame : Nat) : Nat → List (List Int) → List Bus → List Record
  | n, acc :: accs, b :: bs => busOverRecord n frame acc b ++ busOverRecords frame (n + 1) accs bs
  | _, _, _ => []

/-- What the Mix Engine makes of a closed frame (R68 to R72): the buses with their meters, the finalised buses and
the BUS_OVER records in bus order. -/
structure MixResult where
  buses : List Bus
  final : List FinalBus
  records : List Record
  deriving DecidableEq, Repr

/-- R68 to R72: the take of a closed frame. -/
def finalise (blockSize : Nat) (buses : List Bus) (f : Frame) : MixResult :=
  match f.snapshot with
  | none => ⟨buses, buses.map (emptyBus blockSize), []⟩
  | some snaps =>
    let metered := meterBuses f.accumulators buses
    ⟨metered, List.zipWith (finalBus blockSize) snaps f.accumulators,
      busOverRecords f.number 0 f.accumulators metered⟩

/-! ### Dither and stream samples (R73 to R76) -/

/-- One step of a dither generator (R75). -/
def ditherStep (x : BitVec 32) : BitVec 32 := if x.getLsbD 0 then (x >>> 1) ^^^ 0x80200003#32 else x >>> 1

/-- Eight steps (R75). -/
def ditherAdvance (x : BitVec 32) : BitVec 32 := Nat.iterate ditherStep 8 x

/-- The draw after an advance: the low 8 bits of the state (R75). -/
def ditherDraw (x : BitVec 32) : Nat := x.toNat % 256

/-- R74: the S16 sample. -/
def sample16 (z m d : Int) : Int := if m = 0 then 0 else saturate (-32768) 32767 ((z + d + 128) / 256)

/-- The bytes of one stream sample (R73, R74, R76, R117) and the generator after it. -/
def streamSample (b : StreamBody) (z m : Int) (g : BitVec 32) : List Byte × BitVec 32 :=
  if b.width == 0 then
    if b.dither == 1 && m != 0 then
      let g1 := ditherAdvance g
      let g2 := ditherAdvance g1
      (leBytes 2 (signedField 16 (sample16 z m ((ditherDraw g1 : Int) - ditherDraw g2))), g2)
    else (leBytes 2 (signedField 16 (sample16 z m 0)), g)
  else (leBytes 4 (signedField 32 z), g)

/-- The (z, m) pairs of a stream frame in the order of its samples: n first, then the bus list (R76, R117). -/
def streamOrder (blockSize : Nat) (b : StreamBody) (final : List FinalBus) : List (Int × Int) :=
  (List.range blockSize).flatMap fun n => b.busList.map fun k =>
    match final[k]? with
    | some x => (x.values.getD n 0, x.gains.getD n 0)
    | none => (0, 0)

/-- The payload of samples in order, and the generator after them (R76, R117). -/
def streamPayload (b : StreamBody) : List (Int × Int) → BitVec 32 → List Byte × BitVec 32
  | [], g => ([], g)
  | (z, m) :: rest, g =>
    let one := streamSample b z m g
    let more := streamPayload b rest one.2
    (one.1 ++ more.1, more.2)

end Sys2Proof.Machine
end

