-- ==== Sys2Proof/Machine/Streams.lean ====
section
/-! DEFINITION. The Stream Writer: stream frames, slots, the output list, consumption, notices, and what Start and
the resets leave (R114 to R130). -/

namespace Sys2Proof.Machine

/-- The full policy OVERWRITE_OLDEST (R114). -/
def overwrites (b : StreamBody) : Bool := b.policy == 1

/-- A FREE slot with no line read (R130). -/
def Slot.empty : Slot := ⟨.free, [], false⟩

/-- The stream of a number. -/
def StreamWriter.stream (w : StreamWriter) (k : Nat) : Stream := w.streams.getD k Stream.reset

/-- The Stream Writer with one stream changed. -/
def StreamWriter.modifyStream (w : StreamWriter) (k : Nat) (f : Stream → Stream) : StreamWriter :=
  { w with streams := w.streams.modify k f }

/-! ### Stream frames (R117) -/

/-- The flags of a stream frame (R117, R176). -/
def streamFlags (f : Frame) (b : StreamBody) (final : List FinalBus) : Nat :=
  let carried := b.busList.filterMap fun k => final[k]?
  (if f.discontinuity then 1 else 0) + (if f.absent.getD 0 = 0 then 0 else 2)
    + (if carried.any (fun x => x.endGain == 0) then 4 else 0) + (if carried.any (fun x => x.saturated) then 8 else 0)

/-- R176: the header line of a stream frame. -/
def streamHeader (info : FrameInfo) (f : Frame) (k : Nat) (b : StreamBody) (final : List FinalBus) : List Byte :=
  padTo lineSize ([0x5A, 0x4B, 0x53, 0x46] ++ leBytes 1 k ++ [b.width] ++ [b.busCount]
    ++ leBytes 1 (streamFlags f b final) ++ leBytes 4 info.serial ++ leBytes 4 f.number ++ leBytes 2 info.blockSize
    ++ leBytes 1 info.rateCode ++ [0] ++ leBytes 2 (f.absent.getD 0) ++ [0, 0]
    ++ leBytes 4 (b.payloadBytes info.blockSize) ++ padTo 8 (b.busList.map fun x => BitVec.ofNat 8 x))

/-- CONCEALED (R117). -/
def Frame.concealed (f : Frame) : Bool := f.absent.getD 0 != 0

/-! ### The take of a closed frame (R118 to R121, R126) -/

/-- What a take does to the slot at the write position (R118 to R121). -/
inductive SlotCase where
  | fill | drop | overwrite | late
  deriving DecidableEq, Repr

/-- The slot at the write position. -/
def Stream.currentSlot (x : Stream) : Slot := x.slots.getD x.writePosition Slot.empty

/-- R118 to R121: the case that applies. -/
def Stream.slotCase (x : Stream) (b : StreamBody) : SlotCase :=
  match x.currentSlot.state with
  | .free => .fill
  | .filling => .late
  | .filled => if overwrites b then .overwrite else .drop

/-- The slot at the write position starts to be filled (R118, R120, R127). -/
def Stream.beginFilling (x : Stream) (concealed : Bool) : Stream :=
  { x with slots := x.slots.set x.writePosition ⟨.filling, [], concealed⟩, filled := satInc x.filled }

/-- R125: the watermark notice after a fall of the FILLED count. -/
def Stream.rearm (x : Stream) (b : StreamBody) : Stream :=
  { x with watermarkArmed := x.watermarkArmed || decide (x.filledCount < b.watermark.toNat) }

/-- R118 to R121: the stream after the slot decision. -/
def Stream.takeSlot (x : Stream) (b : StreamBody) (concealed : Bool) : Stream :=
  match x.slotCase b with
  | .fill => x.beginFilling concealed
  | .overwrite => { (x.beginFilling concealed).rearm b with overwritten := satInc x.overwritten }
  | .drop => { x with dropped := satInc x.dropped }
  | .late => { x with late := satInc x.late }

/-- R119 to R121: the record of the slot decision of stream `k`, before it is limited to one of its kind for a
frame; `x` is the stream before the decision. -/
def Stream.slotRecords (x : Stream) (b : StreamBody) (k g : Nat) : List Record :=
  match x.slotCase b with
  | .fill => []
  | .overwrite => [⟨.streamOverwrite, k, some g, x.writePosition, x.currentSlot.read.length⟩]
  | .drop => [⟨.streamDrop, k, some g, x.writePosition, satInc x.dropped⟩]
  | .late => [⟨.streamLate, k, some g, x.writePosition, satInc x.late⟩]

/-- The stale count of a take (R126); it stays within 0..1000. -/
def Stream.nextStale (x : Stream) : Nat := if x.filledCount = 0 then 0 else min (x.staleCount + 1) 1000

/-- R126: the take makes the stale notice due. -/
def Stream.staleDue (x : Stream) (b : StreamBody) : Bool :=
  x.filledCount != 0 && decide (b.staleLimit.toNat ≤ x.nextStale) && x.staleArmed

/-- R126: the stale count and notice after the slot decision of a take. -/
def Stream.stale (x : Stream) (b : StreamBody) : Stream :=
  { x with staleCount := x.nextStale, staleArmed := x.staleArmed && !x.staleDue b }

/-- R126: the STREAM_STALE record of a take. -/
def Stream.staleRecords (x : Stream) (b : StreamBody) (k g : Nat) : List Record :=
  if x.staleDue b then [⟨.streamStale, k, some g, x.filledCount, b.staleLimit.toNat⟩] else []

/-- What the take of a closed frame makes of the streams. -/
structure StreamTake where
  streams : List Stream
  out : List StreamOut
  records : List Record
  deriving DecidableEq, Repr

/-- R117 to R121, R126: the take of one enabled stream. `seen` are the kinds of record already written for g. -/
def takeStream (info : FrameInfo) (f : Frame) (final : List FinalBus) (k : Nat) (seen : List RecordKind)
    (x : Stream) (b : StreamBody) : StreamTake :=
  let built := streamPayload b (streamOrder info.blockSize b final) x.generator
  let y := { x.takeSlot b f.concealed with generator := built.2 }
  let starts := x.slotCase b == .fill || x.slotCase b == .overwrite
  ⟨[y.stale b],
    if starts then
      [⟨k, x.writePosition, f.number, b.base.toNat + x.writePosition * b.slotSize info.blockSize, 1,
        cutLines built.1, streamHeader info f k b final⟩]
    else [],
    (x.slotRecords b k f.number).filter (fun r => !seen.contains r.kind) ++ y.staleRecords b k f.number⟩

/-- R117: the take of the streams from number `k` on, in stream number order. -/
def takeStreams (info : FrameInfo) (f : Frame) (final : List FinalBus) : Nat → List RecordKind → List Stream → StreamTake
  | _, _, [] => ⟨[], [], []⟩
  | k, seen, x :: xs =>
    let one := match x.enabledRecord with
      | some b => takeStream info f final k seen x b
      | none => ⟨[x], [], []⟩
    let more := takeStreams info f final (k + 1) (seen ++ one.records.map fun r => r.kind) xs
    ⟨one.streams ++ more.streams, one.out ++ more.out, one.records ++ more.records⟩

/-- R117: the Stream Writer takes a closed frame. -/
def StreamWriter.takeFrame (w : StreamWriter) (info : FrameInfo) (f : Frame) (final : List FinalBus) :
    StreamWriter × List Record :=
  let t := takeStreams info f final 0 [] w.streams
  (⟨t.streams, w.out ++ t.out⟩, t.records)

/-! ### Writing a slot (R122) -/

/-- A line ready to enter the Stream queue (R122). -/
structure StreamLine where
  addr : Nat
  data : List Byte
  note : Note
  deriving DecidableEq, Repr

/-- R122: the next line of the frame at the head of the output list: payload first, header last. -/
def StreamWriter.headLine (w : StreamWriter) : Option StreamLine :=
  match w.out with
  | [] => none
  | o :: _ =>
    match o.payload with
    | d :: _ => some ⟨o.addr + 64 * o.next, d, .streamPayload⟩
    | [] => some ⟨o.addr, o.header, .streamHeader o.stream o.slot o.frame⟩

/-- R122: the Stream Writer once that line has been enqueued. -/
def StreamWriter.dropHeadLine (w : StreamWriter) : StreamWriter :=
  match w.out with
  | [] => w
  | o :: rest =>
    match o.payload with
    | _ :: more => { w with out := { o with next := o.next + 1, payload := more } :: rest }
    | [] => { w with out := rest }

/-- R125: the filled slot makes the watermark notice due; `x` is the stream with the slot FILLED. -/
def Stream.watermarkDue (x : Stream) (b : StreamBody) : Bool :=
  decide (b.watermark.toNat ≤ x.filledCount) && x.watermarkArmed

/-- R122: slot `slot` becomes FILLED. -/
def Stream.fillSlot (x : Stream) (slot : Nat) : Stream :=
  { x with slots := x.slots.modify slot fun k => { k with state := .filled } }

/-- R122, R125: the header line of FILLING slot `slot` has been forwarded. -/
def Stream.slotFilled (x : Stream) (b : StreamBody) (slot : Nat) : Stream :=
  let y := x.fillSlot slot
  { y with
    writePosition := if x.writePosition + 1 < b.slotCount.toNat then x.writePosition + 1 else 0
    watermarkArmed := y.watermarkArmed && !y.watermarkDue b }

/-- R125: the STREAM_WATERMARK record of a filled slot. -/
def Stream.watermarkRecords (x : Stream) (b : StreamBody) (k slot g : Nat) : List Record :=
  if (x.fillSlot slot).watermarkDue b then
    [⟨.streamWatermark, k, some g, (x.fillSlot slot).filledCount, b.watermark.toNat⟩]
  else []

/-! ### Consumption (R123) -/

/-- R123: the slot with one more line marked read. -/
def Slot.mark (k : Slot) (line : Nat) : Slot := if k.read.contains line then k else { k with read := k.read ++ [line] }

/-- R123: every line of a slot of `lines` lines is marked read. -/
def Slot.isCovered (k : Slot) (lines : Nat) : Bool := (List.range lines).all fun j => k.read.contains j

/-- R123, R126: a passing read of line `line` of slot `slot`. -/
def Stream.readLine (x : Stream) (b : StreamBody) (lines slot line : Nat) : Stream :=
  let y := { x with staleCount := 0, staleArmed := true }
  let k := x.slots.getD slot Slot.empty
  if k.state == .filled then
    if (k.mark line).isCovered lines then
      { y with slots := y.slots.set slot Slot.empty, freed := satInc y.freed }.rearm b
    else { y with slots := y.slots.set slot (k.mark line) }
  else { y with unmarked := satInc y.unmarked }

/-- R123: a passing read at `addr`, in the ring of stream `k`. DESIGN CHOICE (assumption 26): where a SetSession
changed N while the slot was FILLED, its read marks stay by line number and its coverage is judged by the present line
count. -/
def StreamWriter.read (w : StreamWriter) (blockSize addr k : Nat) : StreamWriter :=
  w.modifyStream k fun x =>
    match x.enabledRecord with
    | some b =>
      x.readLine b (b.slotLines blockSize) ((addr - b.base.toNat) / b.slotSize blockSize)
        ((addr - b.base.toNat) % b.slotSize blockSize / 64)
    | none => x

/-! ### Sessions and resets (R115, R130) -/

/-- The ring state that SetStream and Start set (R115, R130). -/
def Stream.resetRing (x : Stream) (slotCount : Nat) : Stream :=
  { x with
    slots := List.replicate slotCount Slot.empty
    writePosition := 0
    watermarkArmed := true
    staleArmed := true
    staleCount := 0 }

/-- R129: the counters cleared. -/
def Stream.clearCounters (x : Stream) : Stream :=
  { x with filled := 0, freed := 0, dropped := 0, overwritten := 0, late := 0, unmarked := 0 }

/-- Start for stream `k` (R75, R129, R130). -/
def Stream.startSession (x : Stream) (k : Nat) : Stream :=
  let y := { x.clearCounters with generator := BitVec.ofNat 32 (k + 1) }
  match x.enabledRecord with
  | some b => y.resetRing b.slotCount.toNat
  | none => y

/-- Start for the streams from number `k` on. -/
def startStreams : Nat → List Stream → List Stream
  | _, [] => []
  | k, x :: xs => x.startSession k :: startStreams (k + 1) xs

/-- Start (R130). -/
def StreamWriter.startSession (w : StreamWriter) : StreamWriter := { w with streams := startStreams 0 w.streams }

/-- R130: a FILLING slot becomes FREE. -/
def Stream.abandonFilling (x : Stream) : Stream :=
  { x with slots := x.slots.map fun k => if k.state == .filling then Slot.empty else k }

/-- R130: a path reset or a pinned Restart. -/
def StreamWriter.resetKept (w : StreamWriter) : StreamWriter := ⟨w.streams.map Stream.abandonFilling, []⟩

/-- R78, R130: an unpinned Restart keeps the generators and the counters. -/
def Stream.resetUnpinned (x : Stream) : Stream :=
  { x with record := none, slots := [], writePosition := 0, watermarkArmed := true, staleArmed := true, staleCount := 0 }

/-- R130: an unpinned Restart. -/
def StreamWriter.resetUnpinned (w : StreamWriter) : StreamWriter := ⟨w.streams.map Stream.resetUnpinned, []⟩

/-- R13: no stream frame is waiting, queued or FILLING. -/
def StreamWriter.drained (w : StreamWriter) (queue : List Inserted) : Bool :=
  w.out.isEmpty && queue.isEmpty && !(w.streams.any fun x => x.slots.any fun k => k.state == .filling)

end Sys2Proof.Machine
end

