-- ==== Sys2Proof/Machine/Frames.lean ====
section
/-! DEFINITION. The Frame Table: closing (R43, R44, R48), closing by completeness (R46, R47), and opening (R41, R42). -/

namespace Sys2Proof.Machine

/-- Why a frame closes (R54). -/
inductive Cause where
  | complete | lateness | stall | stop
  deriving DecidableEq, Repr

/-- R54: a close counted, in the total, in its cause and among the empty frames. -/
def FrameCounters.countClose (c : FrameCounters) (cause : Cause) (empty : Bool) : FrameCounters :=
  { c with
    closed := satInc c.closed
    empty := if empty then satInc c.empty else c.empty
    complete := if cause == .complete then satInc c.complete else c.complete
    lateness := if cause == .lateness then satInc c.lateness else c.lateness
    stall := if cause == .stall then satInc c.stall else c.stall
    stop := if cause == .stop then satInc c.stop else c.stop }

/-- R44: the record of a frame number that closes without having opened. -/
def emptyFrame (g : Nat) (discontinuity : Bool) : Frame :=
  ⟨g, discontinuity, [], none, [], none, none, [], [], false, false⟩

/-! ### The steps of a close (R48) -/

/-- Step 1: the record leaves the table and the newest closed number is `g`; the next late write of each window
files a record again (R17). -/
def State.closeNumber (s : State) (g : Nat) : State :=
  (s.setFt { s.ft with frames := s.ft.frames.filter fun x => x.number != g, newest := some g }).setSess
    { s.sess with windows := s.sess.windows.map fun w => { w with lateArmed := true } }

/-- R21: how many buffers of window `w` are keyed with frame `g`. -/
def abandonedIn (buffers : List Buffer) (g w : Nat) : Nat :=
  buffers.countP fun b => b.frame == g && b.window == w

/-- R21: the incomplete counters of the windows from number `w` on. -/
def countAbandoned (buffers : List Buffer) (g : Nat) : Nat → List Window → List Window
  | _, [] => []
  | w, x :: xs =>
    { x with counts := { x.counts with incomplete := satAdd x.counts.incomplete (abandonedIn buffers g w) } }
      :: countAbandoned buffers g (w + 1) xs

/-- Step 2: the frame's buffers are freed and counted incomplete (R21). -/
def State.abandonBuffers (s : State) (g : Nat) : State :=
  (s.setSess { s.sess with windows := countAbandoned s.buffers g 0 s.sess.windows }).setBuffers
    (s.buffers.filter fun b => b.frame != g)

/-- Step 3: window liveness (R22) and track status (R34), not ordered between themselves. -/
def State.evaluateClose (s : State) (f : Frame) : State :=
  let windowRecords := closeWindowRecords s.tracks f 0 s.sess.windows
  let trackRecords := closeTrackRecords f s.ft.frames 0 s.tracks
  ((s.setSess { s.sess with windows := closeWindows s.tracks f 0 s.sess.windows }).setTracks
    (closeTracks f s.ft.frames 0 s.tracks)).fileEither windowRecords trackRecords

/-- Steps 4 and 5: the Mix Engine and the Archive Writer, not ordered between themselves, then the Stream Writer. -/
def State.produce (s : State) (f : Frame) : State :=
  let mixed := finalise s.sess.blockSize s.buses f
  let archived := s.aw.takeFrame s.sess.info f s.ft.newest
  let streamed := s.sw.takeFrame s.sess.info f mixed.final
  ((((s.setBuses mixed.buses).setAw archived.1).fileEither mixed.records archived.2).setSw streamed.1).fileAll
    streamed.2

/-- Step 6: the discontinuity number is cleared if it is `g`, and the close is counted. -/
def State.countClose (s : State) (g : Nat) (cause : Cause) (empty : Bool) : State :=
  s.setFt
    { s.ft with
      discontinuity := if s.ft.discontinuity == some g then none else s.ft.discontinuity
      counters := s.ft.counters.countClose cause empty }

/-- R48: frame `f`, held or empty, closes. -/
def State.closeFrame (s : State) (f : Frame) (cause : Cause) (empty : Bool) : State :=
  let s1 := ((s.closeNumber f.number).abandonBuffers f.number).evaluateClose f
  (s1.produce { f with absent := some (absentCount f 0 s1.tracks) }).countClose f.number cause empty

/-- R43: the close of one unclosed number, held or not. -/
def State.closeOne (s : State) (g : Nat) (cause : Cause) : State :=
  match s.ft.find g with
  | some f => s.closeFrame f cause false
  | none => s.closeFrame (emptyFrame g (s.ft.discontinuity == some g)) cause true

/-- `count` numbers closed in turn, from `g` on. -/
def State.closeRun (cause : Cause) : Nat → Nat → State → State
  | 0, _, s => s
  | count + 1, g, s => State.closeRun cause count (g + 1) (s.closeOne g cause)

/-- R43: every unclosed number through `limit − 1` closes, in increasing order. -/
def State.closeBelow (s : State) (limit : Nat) (cause : Cause) : State :=
  State.closeRun cause (limit - s.ft.nextNumber) s.ft.nextNumber s

/-! ### Completeness (R46, R47) -/

/-- R46: the frame is complete. -/
def FrameTable.isComplete (t : FrameTable) (f : Frame) : Bool := f.winnerCount == t.enabled

/-- The held, complete record of the oldest unclosed number, if there is one (R47). -/
def FrameTable.dueFrame (t : FrameTable) : Option Frame := (t.find t.nextNumber).filter t.isComplete

/-- R47: complete frames close while the oldest unclosed number is held and complete; `fuel` bounds their number. -/
def State.closeComplete : Nat → State → State
  | 0, s => s
  | fuel + 1, s =>
    match s.ft.dueFrame with
    | some f => State.closeComplete fuel (s.closeFrame f .complete false)
    | none => s

/-- R47: the Frame Table looks at the oldest unclosed number. -/
def State.closeDue (s : State) : State := State.closeComplete s.ft.frames.length s

/-! ### Opening (R41, R42) -/

/-- A record inserted in number order. -/
def insertFrame (f : Frame) : List Frame → List Frame
  | [] => [f]
  | x :: xs => if f.number < x.number then f :: x :: xs else x :: insertFrame f xs

/-- R42, R62: the record of a frame that opens. -/
def State.newFrame (s : State) (g : Nat) : Frame :=
  ⟨g, s.ft.discontinuity == some g, [], some (s.buses.map Bus.snapshot),
    List.replicate s.buses.length (List.replicate s.sess.blockSize 0), none, none, [], [], false, false⟩

/-- R41, steps 3 and 4, R42, R62, R63: frame `g` enters the table; the Mix Engine takes its snapshot and makes the
Applied settings equal to the Target settings; the next stray write of each window files a record again (R17). -/
def State.insertNew (s : State) (g : Nat) : State :=
  ((s.setFt
    { s.ft with
      frames := insertFrame (s.newFrame g) s.ft.frames
      reference := max s.ft.reference g
      counters := { s.ft.counters with opened := satInc s.ft.counters.opened } }).setBuses
    (s.buses.map Bus.apply)).setSess
    { s.sess with windows := s.sess.windows.map fun w => { w with strayArmed := true } }

/-- R41: frame `g` opens. -/
def State.openFrame (s : State) (g : Nat) : State :=
  ((s.closeBelow (g + 1 - s.sess.lateness) .lateness).closeDue).insertNew g

/-- R50, R51: the Frame Table closes up to the newest held number, or nothing. -/
def State.closeAll (s : State) (cause : Cause) : State :=
  match s.ft.frames.getLast? with
  | some f => s.closeBelow (f.number + 1) cause
  | none => s

/-- R50: how many numbers that closes. -/
def FrameTable.closeAllCount (t : FrameTable) : Nat :=
  match t.frames.getLast? with
  | some f => f.number + 1 - t.nextNumber
  | none => 0

end Sys2Proof.Machine
end

