-- ==== Sys2Proof/Machine/Path.lean ====
section
/-! DEFINITION. The Path Unit: arrival, eligibility, arbitration, issue, completions, the safety mirror, refusals by
the guard, and what a path reset and a Restart discard (R131 to R148). -/

namespace Sys2Proof.Machine

/-! ### Arrival (R131, R132) -/

/-- Requests the forward queue holds at most (R131). -/
def forwardQueueSize : Nat := 32

/-- Requests that wait at the port enter the forward queue while it has room (R131). -/
def PathUnit.takeIn (u : PathUnit) : PathUnit :=
  { u with
    forward := u.forward ++ u.waiting.take (forwardQueueSize - u.forward.length)
    waiting := u.waiting.drop (forwardQueueSize - u.forward.length) }

/-- R131, R132: a request arrives, takes the next entry order, and is appended, or waits at the port. -/
def PathUnit.arrive (u : PathUnit) (addr : Nat) (write : Option WriteData) (tag : BitVec 4) : PathUnit :=
  PathUnit.takeIn
    { u with
      waiting := u.waiting ++ [⟨u.nextOrder, addr, tag, write⟩]
      nextOrder := u.nextOrder + 1 }

/-- The head of the forward queue leaves, and the oldest request at the port enters (R131). -/
def PathUnit.dropHead (u : PathUnit) : PathUnit := PathUnit.takeIn { u with forward := u.forward.tail }

/-! ### Eligibility (R132) -/

/-- R132: every request to the same line with an earlier entry order has left the part. Requests that wait at the
port have an entry order and have not left (assumption 6). DESIGN CHOICE (assumption 31): a read of the Response header
is held by the entry orders alone (R132), so one that arrived before the line was enqueued is forwarded before it, when
it is taken after the enqueue too (R151, R154). -/
def PathUnit.isEligible (u : PathUnit) (addr order : Nat) : Bool :=
  !(u.forward.any fun r => r.addr == addr && decide (r.order < order))
    && !(u.waiting.any fun r => r.addr == addr && decide (r.order < order))
    && !(u.hazards.any fun h => h.1 == addr && decide (h.2 < order))

/-- The head of the forward queue is eligible. -/
def PathUnit.headEligible (u : PathUnit) : Bool :=
  match u.forward with
  | [] => false
  | r :: _ => u.isEligible r.addr r.order

/-- The head line of a queue is ready (R137); while an ABANDONED header is owed, only the Response queue is
granted (R147). -/
def PathUnit.isReady (u : PathUnit) (p : Producer) : Bool :=
  match u.queues.get p with
  | [] => false
  | l :: _ => u.isEligible l.addr l.order && (!u.abandonedFirst || p == .response)

/-! ### Arbitration (R139, R140) -/

/-- R140: the ready queue with the highest level, the first in the order of R140 where several share it. -/
def PathUnit.choose (u : PathUnit) : Option Producer :=
  (Producer.all.filter u.isReady).foldl (fun best p =>
    match best with
    | none => some p
    | some q => if u.levels.get q < u.levels.get p then some p else some q) none

/-- Whom the downstream port is granted to (R139). -/
inductive Grant where
  | idle
  | passing
  | inserted (p : Producer)
  deriving DecidableEq, Repr

/-- R139. DESIGN CHOICE (assumption 34): no mark keeps a grant owed to insertion; it is owed while the share counter has
reached the present P, so a SetInsertion that raises P above the counter ends it (R141). -/
def PathUnit.grant (u : PathUnit) : Grant :=
  match u.headEligible, u.choose with
  | false, none => .idle
  | true, none => .passing
  | false, some p => .inserted p
  | true, some p => if u.share < u.shareLimit then .passing else .inserted p

/-! ### Issue and completion (R131, R133, R138) -/

/-- A forwarded passing request: its record (R133) and the share counter (R139). With pass-only asserted there is
no inserted line to serve and the counter stays as it is (R146). -/
def PathUnit.recordPassing (u : PathUnit) (r : Passing) (passOnly : Bool) : PathUnit :=
  { u with
    outstanding := u.outstanding ++ [⟨r.order, .passing r.tag, r.write.isSome, r.addr⟩]
    share := if passOnly then u.share else if u.share < u.shareLimit then u.share + 1 else u.share }

/-- R138, R139: the head line of a queue leaves it and the hazard table, its record begins, the share counter
becomes 0, and an owed ABANDONED header is owed no longer (R147). -/
def PathUnit.issueInserted (u : PathUnit) (p : Producer) : PathUnit :=
  match u.queues.get p with
  | [] => u
  | l :: rest =>
    { u with
      queues := u.queues.set p rest
      outstanding := u.outstanding ++ [⟨l.order, .inserted p, true, l.addr⟩]
      share := 0
      abandonedFirst := if p == .response then false else u.abandonedFirst }

/-- The record of an outstanding request with this entry order and kind (R133). -/
def PathUnit.findOutstanding (u : PathUnit) (order : Nat) (isWrite : Bool) : Option Outstanding :=
  u.outstanding.find? fun o => o.order == order && o.isWrite == isWrite

/-- The record has ended (R133). -/
def PathUnit.endOutstanding (u : PathUnit) (order : Nat) : PathUnit :=
  { u with outstanding := u.outstanding.filter fun o => o.order != order }

/-! ### Records of the Path Unit (R136, R142, R144) -/

/-- R136: the counters and notes at a refusal of a write to `target`. -/
def PathUnit.countRefusal (u : PathUnit) (target : Nat) (closed : Option Nat) : PathUnit :=
  if target = responseTarget then
    { u with responseRefusals := satInc u.responseRefusals, guardNotes := noteAt u.guardNotes target closed }
  else { u with archiveRefusals := satInc u.archiveRefusals, guardNotes := noteAt u.guardNotes target closed }

/-- R136: the GUARD_REFUSAL record, if none was written for the target since the newest close; `u` is the Path
Unit before the refusal is counted. -/
def PathUnit.refusalRecords (u : PathUnit) (target : Nat) (tag : BitVec 4) (closed : Option Nat) : List Record :=
  if noted u.guardNotes target closed then []
  else [⟨.guardRefusal, target, closed, tag.toNat,
    if target = responseTarget then satInc u.responseRefusals else satInc u.archiveRefusals⟩]

/-- R142: the counter and note of a producer whose line memory refused. -/
def PathUnit.countError (u : PathUnit) (p : Producer) (closed : Option Nat) : PathUnit :=
  { u with
    pathErrors := u.pathErrors.set p (satInc (u.pathErrors.get p))
    errorNotes := noteAt u.errorNotes p.code closed }

/-- R142: the PATH_ERROR record, if none was written for the producer since the newest close. -/
def PathUnit.errorRecords (u : PathUnit) (p : Producer) (addr : Nat) (closed : Option Nat) : List Record :=
  if noted u.errorNotes p.code closed then []
  else [⟨.pathError, p.code, closed, addr / 64 % 4294967296, satInc (u.pathErrors.get p)⟩]

/-- R144: the counter and note of a dropped mirror line. -/
def PathUnit.countMirrorLoss (u : PathUnit) (w : Nat) (closed : Option Nat) : PathUnit :=
  { u with mirrorLoss := u.mirrorLoss.modify w satInc, mirrorNotes := noteAt u.mirrorNotes w closed }

/-- R143: a forwarded write into a mirrored window is copied, or its copy is dropped. -/
def PathUnit.mirror (u : PathUnit) (w : Nat) (r : WindowRecord) (addr : Nat) (d : WriteData)
    (closed : Option Nat) : PathUnit :=
  match r.mirror with
  | none => u
  | some b =>
    if u.hasRoom .mirror then u.enqueue .mirror (b + (addr - r.base)) d .mirrorCopy
    else u.countMirrorLoss w closed

/-- R144: the MIRROR_LOSS record of the same take. -/
def PathUnit.mirrorRecords (u : PathUnit) (w : Nat) (r : WindowRecord) (addr : Nat) (closed : Option Nat) :
    List Record :=
  match r.mirror with
  | none => []
  | some _ =>
    if u.hasRoom .mirror || noted u.mirrorNotes w closed then []
    else [⟨.mirrorLoss, w, closed, (addr - r.base) / 64, satInc (u.mirrorLoss.getD w 0)⟩]

/-! ### Start and resets (R136, R142, R144, R147, R148) -/

/-- Start clears the per-session counters and the notes (R136, R142, R144). -/
def PathUnit.startSession (u : PathUnit) : PathUnit :=
  { u with
    archiveRefusals := 0
    responseRefusals := 0
    guardNotes := []
    pathErrors := ⟨0, 0, 0, 0, 0⟩
    errorNotes := []
    mirrorLoss := List.replicate 16 0
    mirrorNotes := [] }

/-- R147: what a path reset discards. A request that waits at the port is not in the forward queue: it is then
taken in as a new one (assumption 6). -/
def PathUnit.pathReset (u : PathUnit) : PathUnit :=
  PathUnit.takeIn
    { u with
      forward := []
      queues := ⟨[], [], [], [], []⟩
      outstanding := []
      share := 0
      abandonedFirst := false }

/-- R146, R147: a path reset with pass-only asserted discards the forward queue and has no other effect. -/
def PathUnit.passOnlyReset (u : PathUnit) : PathUnit := PathUnit.takeIn { u with forward := [] }

/-- R148: what a Restart discards, and the insertion settings after it. -/
def PathUnit.restart (u : PathUnit) (pin : Bool) : PathUnit :=
  { u with
    queues := ⟨u.queues.response, [], [], [], []⟩
    levels := if pin then u.levels else PathUnit.reset.levels
    shareLimit := if pin then u.shareLimit else PathUnit.reset.shareLimit }

end Sys2Proof.Machine
end

