-- ==== Sys2Proof/Machine/Capture.lean ====
section
/-! DEFINITION. The capture path: mapping a window write to a frame (R8 to R17), block assembly (R18 to R20), source
selection (R28 to R31), accumulation and archive coding of a winning block (R66, R79, R90, R91). -/

namespace Sys2Proof.Machine

/-! ### Source selection (R28 to R31) -/

/-- R79, R90, R91: the Archive Coder takes the winning block of track `t` for frame `g`. -/
def State.codeWinner (s : State) (g t : Nat) (samples : List Int) (crc : BitVec 32) : State :=
  let open_ := match s.ft.find g with
    | some f => f.drop.isNone
    | none => false
  if s.aw.archiving && s.aw.releaseOrder.contains t && open_ then
    let c := codeBlock samples
    let bytes := trackEntry t c crc
    if s.aw.fits bytes.length then s.setAw (s.aw.stage g t bytes c)
    else
      (s.setAw (s.aw.dropStaging g)).setFt (s.ft.modify g fun f => { f with drop := some ⟨t, bytes.length⟩ })
  else s

/-- The track of a number. -/
def State.track (s : State) (t : Nat) : Track := s.tracks.getD t Track.reset

/-- R28: a completed block wins track `t` of frame `g`; then complete frames close (R46, R47). -/
def State.winBlock (s : State) (g t : Nat) (role : Role) (samples : List Int) : State :=
  let crc := blockCrc samples
  let s1 := s.setFt (s.ft.modify g fun f =>
    ({ f with wins := f.wins ++ [⟨t, role, crc⟩] } : Frame).accumulate s.sess.blockSize t samples)
  let s2 := s1.codeWinner g t samples crc
  ((s2.setTracks (s2.tracks.modify t fun x => x.win role)).fileAll ((s2.track t).backRecords t g role)).closeDue

/-- R30, R31: a second copy of track `t` for frame `g`, whose stored CRC is `stored`. -/
def State.secondCopy (s : State) (g t : Nat) (stored : BitVec 32) (samples : List Int) : State :=
  if (s.track t).record.compare then
    let crc := blockCrc samples
    let s1 := s.setTracks (s.tracks.modify t fun x => x.compare (crc == stored))
    let reported := match s.ft.find g with
      | some f => f.disagreed
      | none => true
    if crc == stored || reported then s1
    else
      (s1.setFt (s1.ft.modify g fun f => { f with disagreed := true })).file
        ⟨.sourceDisagree, t, some g, stored.toNat, crc.toNat⟩
  else s

/-- R28: a completed block reaches the Source Selector. -/
def State.selectBlock (s : State) (src : Source) (g : Nat) (samples : List Int) : State :=
  match sourceOf s.tracks src with
  | none => s
  | some (t, role) =>
    match (s.ft.find g).bind fun f => f.winner t with
    | some w => s.secondCopy g t w.crc samples
    | none => s.winBlock g t role samples

/-! ### Block assembly (R18 to R20) -/

/-- Block buffers in the pool (R18). -/
def poolSize : Nat := 256

/-- The buffer is keyed (window, lane, frame) (R18). -/
def Buffer.isKeyed (b : Buffer) (src : Source) (g : Nat) : Bool :=
  b.window == src.window && b.lane == src.lane && b.frame == g

/-- A free buffer taken for a key: 4N bytes with every mark clear (R18). -/
def Buffer.fresh (src : Source) (g blockSize : Nat) : Buffer :=
  ⟨src.window, src.lane, g, List.replicate (blockSize / 16) ⟨List.replicate lineSize 0, 0⟩⟩

/-- R18: the enabled bytes copied into a line, with their marks. -/
def Buffer.write (b : Buffer) (line : Nat) (d : WriteData) : Buffer :=
  { b with lines := b.lines.modify line fun l => ⟨mergeLine l.data d.data d.mask, l.cover ||| d.mask⟩ }

/-- R20: every coverage mark is set. -/
def Buffer.isFull (b : Buffer) : Bool := b.lines.all fun l => l.cover == fullMask

/-- The bytes of the block, in address order (R2). -/
def Buffer.bytes (b : Buffer) : List Byte := b.lines.flatMap fun l => l.data

/-- Count in one window. -/
def State.countWindow (s : State) (w : Nat) (f : WindowCounters → WindowCounters) : State :=
  s.setSess (s.sess.modifyWindow w fun x => { x with counts := f x.counts })

/-- R20: the block in buffer `b` is complete. -/
def State.completeBlock (s : State) (format : Format) (b : Buffer) : State :=
  let src : Source := ⟨b.window, b.lane⟩
  (((s.setFt (s.ft.modify b.frame fun f => { f with completed := f.completed ++ [src] })).countWindow b.window
      fun c => { c with completed := satInc c.completed }).setBuffers
    (s.buffers.filter fun x => !x.isKeyed src b.frame)).selectBlock src b.frame (samplesOf format b.bytes)

/-- R18, R20: a buffer of the pool after a copy into it: kept, or completed. -/
def State.keepBuffer (s : State) (format : Format) (b : Buffer) : State :=
  if b.isFull then s.completeBlock format b
  else
    let src : Source := ⟨b.window, b.lane⟩
    s.setBuffers
      (if s.buffers.any (fun x => x.isKeyed src b.frame) then
        s.buffers.map fun x => if x.isKeyed src b.frame then b else x
      else s.buffers ++ [b])

/-- R19: no buffer is free for a block of `src` in frame `g`. -/
def State.exhaust (s : State) (src : Source) (g : Nat) (first : Bool) : State :=
  let s1 := (s.setFt (s.ft.modify g fun f =>
    { f with failed := f.failed ++ [src], exhausted := true })).countWindow src.window
      fun c => { c with exhausted := satInc c.exhausted }
  if first then
    s1.file ⟨.poolExhausted, src.window, some g, src.lane, (s1.sess.window src.window).counts.exhausted⟩
  else s1

/-- R18: a capture write to line `line` of block (src, g). -/
def State.assemble (s : State) (format : Format) (src : Source) (g line : Nat) (d : WriteData) : State :=
  match s.ft.find g with
  | none => s
  | some f =>
    if f.completed.contains src then s.countWindow src.window fun c => { c with rewrite := satInc c.rewrite }
    else if f.failed.contains src then s
    else
      match s.buffers.find? fun b => b.isKeyed src g with
      | some b => s.keepBuffer format (b.write line d)
      | none =>
        if s.buffers.length < poolSize then
          s.keepBuffer format ((Buffer.fresh src g s.sess.blockSize).write line d)
        else s.exhaust src g (!f.exhausted)

/-! ### Mapping (R15 to R17) -/

/-- The last frame number (R56). -/
def lastFrame : Nat := 4294967295

/-- R15, step 2: the frame number congruent to slot + anchor in the S numbers that end S/2 above the reference. -/
def mapFrame (reference slots anchor slot : Nat) : Int :=
  let low : Int := (reference : Int) - (slots / 2 : Nat) + 1
  low + ((slot : Int) + anchor - low) % slots

/-- R17: a stray capture write. -/
def State.strayWrite (s : State) (w slot : Nat) : State :=
  let armed := (s.sess.window w).strayArmed
  let s1 := (s.countWindow w fun c => { c with stray := satInc c.stray })
  if armed then
    (s1.setSess (s1.sess.modifyWindow w fun x => { x with strayArmed := false })).file
      ⟨.strayWrite, w, none, slot, (s1.sess.window w).counts.stray⟩
  else s1

/-- R16 case 1, R17: a late capture write. -/
def State.lateWrite (s : State) (w slot g : Nat) : State :=
  let armed := (s.sess.window w).lateArmed
  let s1 := (s.countWindow w fun c => { c with late := satInc c.late })
  if armed then
    (s1.setSess (s1.sess.modifyWindow w fun x => { x with lateArmed := false })).file
      ⟨.lateWrite, w, some g, slot, (s1.sess.window w).counts.late⟩
  else s1

/-- The full stall time (R9). -/
def SessionControl.stallTime (c : SessionControl) : Nat :=
  match c.record with
  | some r => r.stall
  | none => 0

/-- R8: ARMED ends with the open of frame `g`. -/
def State.enterRunning (s : State) (g : Nat) : State :=
  (s.setSess { s.sess with state := .running, timer := some s.sess.stallTime }).file
    ⟨.sessionState, 0, some g, SessionState.running.code, SessionState.armed.code⟩

/-- R16 case 3, R8: frame `g` opens for a capture write. -/
def State.openFor (s : State) (g : Nat) : State :=
  if s.sess.state == .armed then (s.openFrame g).enterRunning g else s.openFrame g

/-- R16: a capture write mapped to frame `g`. -/
def State.captureMapped (s : State) (w : Nat) (r : WindowRecord) (p : WindowPlace) (g : Nat) (d : WriteData) : State :=
  if s.ft.isClosed g then s.lateWrite w p.slot g
  else
    let s1 := if (s.ft.find g).isSome then s else s.openFor g
    s1.assemble r.format ⟨w, p.lane⟩ g p.line d

/-- R15: a capture write of an anchored window. -/
def State.captureWrite (s : State) (w : Nat) (r : WindowRecord) (p : WindowPlace) (d : WriteData) : State :=
  let x := s.sess.window w
  let f := mapFrame (x.reference.getD s.ft.reference) r.slots x.anchor p.slot
  if f < 0 ∨ (lastFrame : Int) < f then s.strayWrite w p.slot
  else
    let g := f.toNat
    let s1 := s.setSess (s.sess.modifyWindow w fun x =>
      { x with reference := some (match x.reference with
        | some q => max q g
        | none => g) })
    s1.captureMapped w r p g d

/-- R11: window `w` is anchored so that slot `slot` maps to frame `q`. -/
def SessionControl.anchor (c : SessionControl) (w slots slot q : Nat) : SessionControl :=
  c.modifyWindow w fun x =>
    { x with anchor := (((q : Int) - slot) % slots).toNat, reference := some q, anchored := true }

/-- R11, step 2: the reference of a loaded window becomes unset. DESIGN CHOICE (assumption 24): R11 speaks of loaded
windows only, and the reference that a now unloaded window number kept stays. -/
def Window.unsetReference (x : Window) : Window :=
  match x.record with
  | some _ => { x with reference := none }
  | none => x

/-- R11: the session resumes at a write to slot `slot` of window `w`. What an unloaded window number holds stays (DESIGN
CHOICE, assumption 24). -/
def State.resumeSession (s : State) (w slots slot : Nat) : State :=
  let q := s.ft.nextNumber
  let c : SessionControl := { s.sess with windows := s.sess.windows.map Window.unsetReference }
  let c := c.anchor w slots slot q
  ((s.setSess { c with state := .running, timer := some s.sess.stallTime, resume := some q }).setFt
    { s.ft with discontinuity := some q }).file ⟨.resume, w, some q, slot, 0⟩

/-- R8, R9, R11, R13: a window write to window `w`, with at least one byte enabled. -/
def State.windowWrite (s : State) (w : Nat) (r : WindowRecord) (p : WindowPlace) (d : WriteData) : State :=
  let source := isSourceLane s.tracks ⟨w, p.lane⟩
  match s.sess.state with
  | .idle => s
  | .draining => s.countWindow w fun c => { c with ignored := satInc c.ignored }
  | .armed => if source then s.captureWrite w r p d else s
  | .running =>
    let s1 := s.setSess { s.sess with timer := some s.sess.stallTime }
    if (s.sess.window w).anchored then
      if source then s1.captureWrite w r p d else s1
    else
      let q := s.sess.resume.getD 0
      let s2 := s1.setSess (s1.sess.anchor w r.slots p.slot q)
      if source then s2.captureMapped w r p q d else s2
  | .stalled =>
    if s.ft.newest = some lastFrame then
      if source then s.strayWrite w p.slot else s
    else
      let s1 := s.resumeSession w r.slots p.slot
      if source then s1.captureMapped w r p s.ft.nextNumber d else s1

/-- R143, R144 and the session's part of a forwarded write at `addr` to window `w`; the order of the MIRROR_LOSS
record and the session's own records is open (assumption 3). DESIGN CHOICE (assumption 29): the record is judged by,
noted with and carries the newest closed number from before any close that the same write makes. -/
def State.windowOwner (s : State) (addr : Nat) (d : WriteData) (w : Nat) : State :=
  match (s.sess.window w).record with
  | none => s
  | some r =>
    let lost := s.path.mirrorRecords w r addr s.ft.newest
    let s1 := s.setPath (s.path.mirror w r addr d s.ft.newest)
    let session := fun (x : State) =>
      if d.mask = 0 then x else x.windowWrite w r (r.place x.sess.blockSize addr) d
    match lost with
    | [] => session s1
    | _ =>
      let s2 := s1.setFreeCount (s1.freeCount + 1)
      if Config.freeOrder s1.freeCount then session (s2.fileAll lost) else (session s2).fileAll lost

end Sys2Proof.Machine
end

