-- ==== Sys2Proof/Machine/Operands.lean ====
section
/-! DEFINITION. The operand forms: the fields of every command body, read from its bytes as R172 lays them out, and
the body lengths of check 8 (R152, R172). -/

namespace Sys2Proof.Machine

/-- One entry of a LoadWindows body (R172). -/
structure WindowEntry where
  window : Nat
  lanes : Nat
  slots : Nat
  format : Nat
  mirrorFlag : Bool
  liveLimit : Nat
  base : Nat
  mirrorBase : Nat
  deriving DecidableEq, Repr

/-- One entry of a LoadTracks body (R172). -/
structure TrackEntry where
  track : Nat
  enabled : Nat
  primary : Source
  alternateFlag : Nat
  alternate : Source
  compare : Nat
  lossLimit : Nat
  deriving DecidableEq, Repr

/-- `count` entries of `size` bytes from offset 4 of a counted body (R172). -/
def bodyEntries (body : List Byte) (size count : Nat) : List (List Byte) :=
  (List.range count).map fun k => (body.drop (4 + size * k)).take size

/-- A LoadWindows entry from its bytes. A flag its function does not check is read from its least significant bit
(R170). -/
def windowEntry (e : List Byte) : WindowEntry where
  window := fieldAt e 0 1
  lanes := fieldAt e 1 1
  slots := fieldAt e 2 1
  format := fieldAt e 3 1
  mirrorFlag := fieldAt e 4 1 % 2 == 1
  liveLimit := fieldAt e 5 1
  base := fieldAt e 8 8
  mirrorBase := fieldAt e 16 8

/-- A LoadTracks entry from its bytes. -/
def trackEntryOf (e : List Byte) : TrackEntry where
  track := fieldAt e 0 1
  enabled := fieldAt e 1 1
  primary := ⟨fieldAt e 2 1, fieldAt e 3 1⟩
  alternateFlag := fieldAt e 4 1
  alternate := ⟨fieldAt e 5 1, fieldAt e 6 1⟩
  compare := fieldAt e 7 1
  lossLimit := fieldAt e 8 1

/-- The entries of a LoadWindows body. -/
def windowEntries (body : List Byte) : List WindowEntry := (bodyEntries body 24 (fieldAt body 0 1)).map windowEntry

/-- The entries of a LoadTracks body. -/
def trackEntries (body : List Byte) : List TrackEntry := (bodyEntries body 12 (fieldAt body 0 1)).map trackEntryOf

/-- The tracks of a LoadReleaseOrder body. -/
def releaseTracks (body : List Byte) : List Byte := (body.drop 4).take (fieldAt body 0 1)

/-- The entries of a LoadBus body. -/
def busEntries (body : List Byte) : List BusEntry :=
  (bodyEntries body 4 (fieldAt body 1 1)).map fun e => ⟨byteAt e 0, BitVec.ofNat 16 (fieldAt e 2 2)⟩

/-- The entries of a SetBusLevel body. -/
def levelEntries (body : List Byte) : List LevelEntry :=
  (bodyEntries body 4 (fieldAt body 0 1)).map fun e => ⟨byteAt e 0, byteAt e 1, BitVec.ofNat 16 (fieldAt e 2 2)⟩

/-- The fields of a SetStream body. -/
def streamBody (body : List Byte) : StreamBody where
  stream := byteAt body 0
  enabled := byteAt body 1
  busCount := byteAt body 2
  width := byteAt body 3
  dither := byteAt body 4
  policy := byteAt body 5
  slotCount := byteAt body 6
  buses := BitVec.ofNat 64 (fieldAt body 8 8)
  base := BitVec.ofNat 64 (fieldAt body 16 8)
  watermark := BitVec.ofNat 16 (fieldAt body 24 2)
  staleLimit := BitVec.ofNat 16 (fieldAt body 26 2)

/-- The fields of a SetArchive body. -/
def archiveBody (body : List Byte) : ArchiveBody where
  base := BitVec.ofNat 64 (fieldAt body 0 8)
  sizeMiB := byteAt body 8
  count := BitVec.ofNat 16 (fieldAt body 10 2)
  low := BitVec.ofNat 16 (fieldAt body 12 2)
  high := BitVec.ofNat 16 (fieldAt body 14 2)

/-- The fields of a SetReports body. -/
def reportsBody (body : List Byte) : ReportsBody where
  base := BitVec.ofNat 64 (fieldAt body 0 8)
  count := BitVec.ofNat 16 (fieldAt body 8 2)
  records := BitVec.ofNat 64 (fieldAt body 16 8)
  pulses := BitVec.ofNat 64 (fieldAt body 24 8)

/-- The fields of a SetInsertion body. -/
def insertionBody (body : List Byte) : InsertionBody :=
  ⟨byteAt body 0, byteAt body 1, byteAt body 2, byteAt body 3, byteAt body 4, byteAt body 5⟩

/-- The length of a counted body whose count byte stands at `at0`; none where the body is too short to hold it
(R172). -/
def countedLength (body : List Byte) (at0 size : Nat) : Option Nat :=
  if at0 < body.length then some (4 + size * fieldAt body at0 1) else none

/-- The body length that R172 gives a function and, for a counted body, the count its body holds. -/
def bodyLength (fn : Function) (body : List Byte) : Option Nat :=
  match fn with
  | .setSession => some 8
  | .loadWindows => countedLength body 0 24
  | .loadTracks => countedLength body 0 12
  | .loadReleaseOrder => countedLength body 0 1
  | .loadBus => countedLength body 1 4
  | .setBusLevel => countedLength body 0 4
  | .setBusMute => some 4
  | .setStream => some 32
  | .setArchive => some 16
  | .releaseSegment => some 4
  | .setReports => some 32
  | .setInsertion => some 8
  | .start => some 0
  | .stop => some 0
  | .pinSettings => some 4
  | .restart => some 0
  | .getFailReason => some 0
  | .getSession => some 0
  | .getTracks => some 4
  | .getWindows => some 0
  | .getMeters => some 0
  | .getStreams => some 0
  | .getArchive => some 0
  | .getResetCause => some 0

/-- Check 8 for a whole body (R152, R172). -/
def lengthFits (fn : Function) (body : List Byte) : Bool := bodyLength fn body == some body.length

end Sys2Proof.Machine
end

