-- ==== Sys2Proof/Machine/Commands.lean ====
section
/-! DEFINITION. The Command Unit: the copy into the Command Buffer, submission, the take, the packet checks, the
multi-part sequence, outcomes and response lines (R149 to R157). The functions themselves are in Functions.lean. -/

namespace Sys2Proof.Machine

/-! ### Response lines (R151, R153, R171) -/

/-- R171: line 0 of the Response Slot. -/
def responseHeader (seq : Byte) (state : Nat) (function flags : BitVec 16) (length check : Nat) (body : List Byte) :
    List Byte :=
  padTo lineSize ([seq] ++ leBytes 1 state ++ leBytes 2 function.toNat ++ leBytes 2 flags.toNat ++ leBytes 2 length
    ++ leBytes 2 check ++ List.replicate 6 0 ++ body.take 48)

/-- The working header of a command (R151, step 3). -/
def workingHeader (seq : Byte) (function : BitVec 16) : List Byte := responseHeader seq 1 function 0 0 0 []

/-- The abandoned header of a command (R162). -/
def abandonedHeader (seq : Byte) (function flags : BitVec 16) : List Byte := responseHeader seq 3 function flags 0 0 []

/-- The final header line of a command, as its flags stand (R153, R154). -/
def Working.finalHeader (w : Working) : List Byte :=
  responseHeader w.seq 2 w.function w.flags w.body.length (bodySum w.body) w.body

/-- R153: the body lines of a response, Response Slot lines 1 upward. -/
def bodyLines (body : List Byte) : List ResponseOut :=
  (List.range ((15 + body.length) / 64)).map fun j =>
    .line (j + 1) (lineAt (List.replicate 16 0 ++ body) (64 * (j + 1)))

/-- Line `index` of the Response Slot enters the Response queue. -/
def State.enqueueResponse (s : State) (index : Nat) (data : List Byte) (note : Note) : State :=
  s.setPath (s.path.enqueue .response (s.straps.responseSlot.base + 64 * index) ⟨data, fullMask⟩ note)

/-- A response line that is enqueued at once where the queue has room, and waits in the output list otherwise
(R137, R151). -/
def State.emitResponse (s : State) (data : List Byte) : State :=
  if s.path.hasRoom .response && s.cmd.out.isEmpty then s.enqueueResponse 0 data .responseLine
  else s.setCmd { s.cmd with out := s.cmd.out ++ [.line 0 data] }

/-! ### The take (R151) -/

/-- R151, steps 1 to 3: the sequence is taken, the unit is WORKING, the coverage marks are cleared, and the working
header goes out. DESIGN CHOICE (assumption 32): the taken counter counts the packet here, so that GetSession reports
itself. -/
def State.beginTake (s : State) (seq : Byte) (function : BitVec 16) : State :=
  (s.setCmd
    { s.cmd with
      lastTaken := seq
      working := some ⟨seq, function, 0, .none, [], false, 0⟩
      coverage := 0
      taken := satInc s.cmd.taken }).emitResponse (workingHeader seq function)

/-! ### Outcomes (R153) -/

/-- What a function's owner answers: success with a response body, a refusal, or, for Stop, that the outcome is
settled later. -/
inductive Reply where
  | done (body : List Byte)
  | refused (reason : Reason)
  | later
  deriving DecidableEq, Repr

/-- R153: the outcome is settled, and the final response joins the output list. -/
def CommandUnit.settleOutcome (u : CommandUnit) (flags : BitVec 16) (reason : Reason) (body : List Byte) : CommandUnit :=
  match u.working with
  | none => u
  | some w =>
    { u with
      working := some { w with flags := w.flags ||| flags, reason := reason, body := body, finals := w.finals + 1 }
      out := u.out ++ bodyLines body ++ [.finalHeader] }

/-- R152: a packet ended by a failed check. -/
def State.failCheck (s : State) (flag : BitVec 16) : State :=
  s.setCmd (CommandUnit.settleOutcome { s.cmd with checkFailures := satInc s.cmd.checkFailures } flag .none [])

/-- R153, R157: the outcome of an executed function. -/
def State.answer (s : State) (reply : Reply) : State :=
  match reply with
  | .done body => s.setCmd (s.cmd.settleOutcome 0 .none body)
  | .refused r =>
    s.setCmd (CommandUnit.settleOutcome { s.cmd with refused := satInc s.cmd.refused, failReason := r } flagRefused r [])
  | .later => s

/-! ### Overruns (R154) -/

/-- R154: a submission while WORKING. -/
def CommandUnit.overrun (u : CommandUnit) : CommandUnit :=
  match u.working with
  | none => u
  | some w =>
    let counted := { u with overruns := satInc u.overruns }
    if w.flags &&& flagOverrun = flagOverrun then counted
    else if w.finalEnqueued then
      { counted with
        working := some { w with flags := w.flags ||| flagOverrun, finals := w.finals + 1 }
        out := u.out ++ [.finalHeader] }
    else { counted with working := some { w with flags := w.flags ||| flagOverrun } }

/-- R150, R154: what a submission with sequence `seq` does: nothing, an overrun, or the take `take`. With pass-only
asserted no packet is taken (R146). -/
def State.submit (s : State) (seq : Byte) (take : State → State) : State :=
  if s.straps.passOnly || seq == 0 || seq == s.cmd.lastTaken then s
  else
    match s.cmd.working with
    | some _ => s.setCmd s.cmd.overrun
    | none => take s

/-! ### Multi-part sequences (R155, R156) -/

/-- Bytes the staged data holds at most (R155). -/
def stagedLimit : Nat := 4096

/-- The open sequence is discarded or ended (R155, R156). -/
def State.endSequence (s : State) : State := s.setCmd { s.cmd with openSequence := none }

/-- R155: a FIRST or MIDDLE part is staged. -/
def State.stagePart (s : State) (fn : Function) (parts : Nat) (staged : List Byte) : State :=
  (s.setCmd { s.cmd with openSequence := some ⟨fn, parts, staged⟩ }).answer (.done [])

/-- What a function's owner does with a whole body (Functions.lean). -/
abbrev Owner := List Byte → State → State × Reply

/-- The owner's answer becomes the outcome (R151 step 5, R153). -/
def State.execute (s : State) (run : State → State × Reply) : State := (run s).1.answer (run s).2

/-- Checks 7 and 8 and the execution of a part that has passed checks 1 to 6 (R155, R156). -/
def State.takePart (s : State) (fn : Function) (owner : Owner) (part : Part) (body : List Byte) : State :=
  match part, s.cmd.openSequence with
  | .only, none => if lengthFits fn body then s.execute (owner body) else s.failCheck flagLength
  | .only, some _ => s.endSequence.failCheck flagBrokenSequence
  | .first, none => s.stagePart fn 1 body
  | .first, some _ => s.endSequence.failCheck flagBrokenSequence
  | .middle, none => s.failCheck flagBadPart
  | .middle, some q =>
    if q.function ≠ fn then s.failCheck flagBadPart
    else if (q.staged ++ body).length ≤ stagedLimit then s.stagePart fn (satInc q.parts) (q.staged ++ body)
    else s.endSequence.failCheck flagLength
  | .last, none => s.failCheck flagBadPart
  | .last, some q =>
    if q.function ≠ fn then s.failCheck flagBadPart
    else if decide ((q.staged ++ body).length ≤ stagedLimit) && lengthFits fn (q.staged ++ body) then
      s.endSequence.execute (owner (q.staged ++ body))
    else s.endSequence.failCheck flagLength

/-- Check 7 and the execution of a single-part packet whose body has the right length (R155). -/
def State.takeSingle (s : State) (run : State → State × Reply) : State :=
  match s.cmd.openSequence with
  | none => s.execute run
  | some _ => s.endSequence.failCheck flagBrokenSequence

/-! ### The Command Buffer and the packet checks (R149, R150, R152) -/

/-- R149: the enabled bytes of a write to line `line` of the Command Slot are copied, and the line is marked if
there is one. -/
def CommandUnit.copy (u : CommandUnit) (line : Nat) (d : WriteData) : CommandUnit :=
  { u with
    buffer := (List.range 1024).map fun i =>
      if i / 64 = line ∧ d.mask.getLsbD (i % 64) then d.data.getD (i % 64) 0 else u.buffer.getD i 0
    coverage := if d.mask = 0 then u.coverage else u.coverage ||| (1#16 <<< line) }

/-- A packet that has passed checks 1 to 6. -/
structure Packet where
  function : Function
  part : Part
  body : List Byte
  deriving DecidableEq, Repr

/-- Check 5: every line from 0 to the one that holds the body's last byte is marked (R152). -/
def isCovered (coverage : BitVec 16) (length : Nat) : Bool :=
  (List.range ((15 + length) / 64 + 1)).all fun k => coverage.getLsbD k

/-- Checks 1 to 6 of R152, on the bytes of the Command Buffer and the coverage map as read at the take. -/
def checkPacket (buffer : List Byte) (coverage : BitVec 16) : Except (BitVec 16) Packet :=
  let kind := fieldAt buffer 1 1
  let length := fieldAt buffer 6 2
  let body := (buffer.drop 16).take length
  if (kind ≠ 0x31 ∧ kind ≠ 0x32) ∨ fieldAt buffer 3 1 ≠ 0 then .error flagBadKind
  else
    match Function.ofNumber (fieldAt buffer 4 2) with
    | none => .error flagBadFunction
    | some fn =>
      if fn.isGet ≠ (kind == 0x32) then .error flagBadKind
      else
        match partOfCode (fieldAt buffer 2 1) with
        | none => .error flagBadPart
        | some part =>
          if part ≠ .only ∧ ¬ fn.multiPart then .error flagBadPart
          else if 1008 < length ∨ ¬ isCovered coverage length then .error flagShortBody
          else if bodySum body ≠ fieldAt buffer 8 2 then .error flagCheckError
          else .ok ⟨fn, part, body⟩

/-- R151, R152: the packet in the Command Buffer is taken. -/
def State.takePacket (s : State) (owner : Function → Owner) (seq : Byte) : State :=
  let checked := checkPacket s.cmd.buffer s.cmd.coverage
  let s1 := s.beginTake seq (BitVec.ofNat 16 (fieldAt s.cmd.buffer 4 2))
  match checked with
  | .error flag => s1.failCheck flag
  | .ok p => s1.takePart p.function (owner p.function) p.part p.body

/-- R149, R150: a forwarded write to line `line` of the Command Slot. -/
def State.commandWrite (s : State) (owner : Function → Owner) (line : Nat) (d : WriteData) : State :=
  let s1 := s.setCmd (s.cmd.copy line d)
  if line = 0 ∧ d.mask.getLsbD 0 then s1.submit (byteAt s1.cmd.buffer 0) fun x => x.takePacket owner (byteAt s1.cmd.buffer 0)
  else s1

/-! ### The end of a command (R153) -/

/-- R153: the COMMAND_DONE record. -/
def Working.doneRecord (w : Working) (newest : Option Nat) : Record :=
  ⟨.commandDone, w.function.toNat, newest, w.flags.toNat, w.reason.code⟩

/-- R153: the last final header line has been forwarded; the unit is READY. -/
def State.endCommand (s : State) : State :=
  match s.cmd.working with
  | none => s
  | some w => (s.setCmd { s.cmd with working := none }).file (w.doneRecord s.ft.newest)

/-- R153, R154: a final header line of the command has been forwarded. -/
def CommandUnit.finalForwarded (u : CommandUnit) : CommandUnit :=
  match u.working with
  | none => u
  | some w => { u with working := some { w with finals := w.finals - 1 } }

/-! ### The output list (R137, R153) -/

/-- A line ready to enter the Response queue. -/
structure ResponseLine where
  index : Nat
  data : List Byte
  note : Note
  deriving DecidableEq, Repr

/-- The line at the head of the output list, as it is built. -/
def CommandUnit.headLine (u : CommandUnit) : Option ResponseLine :=
  match u.out, u.working with
  | [], _ => none
  | .line i d :: _, _ => some ⟨i, d, .responseLine⟩
  | .finalHeader :: _, some w => some ⟨0, w.finalHeader, .finalHeader⟩
  | .finalHeader :: _, none => none

/-- The Command Unit once that line has been enqueued. -/
def CommandUnit.dropHeadLine (u : CommandUnit) : CommandUnit :=
  match u.out with
  | [] => u
  | .line _ _ :: rest => { u with out := rest }
  | .finalHeader :: rest =>
    { u with out := rest, working := u.working.map fun w => { w with finalEnqueued := true } }

/-! ### Resets (R162, R163) -/

/-- R162, R163: a path reset at the Command Unit. -/
def CommandUnit.pathReset (u : CommandUnit) : CommandUnit :=
  { u with
    coverage := 0
    out := []
    working := none
    openSequence := none
    causes := { u.causes with path := true }
    abandoned := if u.working.isSome then satInc u.abandoned else u.abandoned }

end Sys2Proof.Machine
end

