-- ==== Sys2Proof/Machine/Queries.lean ====
section
/-! DEFINITION. The response bodies of the GET functions, packed as R173 states, in the order in which the owning
rules list their items (R23, R38, R77, R111, R128, R160, R161). A value reported as none is all ones in its width
(R173); the bytes whose value the manual does not state are free values (assumption 8). -/

namespace Sys2Proof.Machine

/-- `n` bytes of ones: a value reported as none (R173). -/
def noneBytes (n : Nat) : List Byte := List.replicate n 255

/-- `n` zero bytes. -/
def zeroBytes (n : Nat) : List Byte := List.replicate n 0

/-- `n` bytes whose value the manual does not state, from byte `i` of the response to the packet taken as number
`take` on: FREE VALUES (assumption 8). -/
def freeBytes (take i n : Nat) : List Byte := (List.range n).map fun j => Config.freeByte take (i + j)

/-- A number of `n` bytes, or none (R173). -/
def optionBytes (n : Nat) (x : Option Nat) : List Byte :=
  match x with
  | some v => leBytes n v
  | none => noneBytes n

/-! ### Sessions (R161) -/

/-- The session record, in the encoding of SetSession (R172, R173). -/
def SessionRecord.bytes (r : SessionRecord) : List Byte :=
  leBytes 2 r.blockSize ++ leBytes 1 r.lateness ++ leBytes 1 r.rate.code ++ leBytes 4 r.stall

/-- The counters of R54. -/
def FrameCounters.bytes (c : FrameCounters) : List Byte :=
  leBytes 4 c.opened ++ leBytes 4 c.closed ++ leBytes 4 c.empty ++ leBytes 4 c.complete ++ leBytes 4 c.lateness
    ++ leBytes 4 c.stall ++ leBytes 4 c.stop

/-- The open sequence: its function, the parts taken and the staged bytes (R161). -/
def openSequenceBytes (q : Option OpenSequence) : List Byte :=
  match q with
  | some x => leBytes 1 x.function.number ++ leBytes 4 x.parts ++ leBytes 4 x.staged.length
  | none => noneBytes 9

/-- The GetSession body (R161). -/
def State.sessionBody (s : State) : List Byte :=
  leBytes 1 s.sess.state.code
    ++ (match s.sess.record with
      | some r => flagByte true ++ r.bytes
      | none => flagByte false ++ freeBytes s.cmd.taken 0 8)
    ++ leBytes 4 s.sess.serial ++ optionBytes 4 s.sess.resume
    ++ optionBytes 4 s.ft.newest ++ leBytes 4 s.ft.reference ++ leBytes 1 s.ft.frames.length
    ++ optionBytes 4 s.ft.discontinuity ++ s.ft.counters.bytes
    ++ leBytes 4 s.path.archiveRefusals ++ leBytes 4 s.path.responseRefusals
    ++ Producer.all.flatMap (fun p => leBytes 4 (s.path.pathErrors.get p))
    ++ s.path.mirrorLoss.flatMap (leBytes 4)
    ++ leBytes 4 s.rw.lost
    ++ flagByte s.cmd.pin ++ [s.cmd.lastTaken] ++ openSequenceBytes s.cmd.openSequence
    ++ leBytes 4 s.cmd.taken ++ leBytes 4 s.cmd.checkFailures ++ leBytes 4 s.cmd.refused ++ leBytes 4 s.cmd.overruns
    ++ leBytes 4 s.cmd.abandoned
    ++ [s.straps.baseSel]

/-! ### Tracks (R38) -/

/-- A (window, lane) pair, or none. -/
def sourceBytes (x : Option Source) : List Byte :=
  match x with
  | some p => leBytes 1 p.window ++ leBytes 1 p.lane
  | none => noneBytes 2

/-- A track record, in the encoding of a LoadTracks entry (R172, R173); `take` is the number of the packet taken. -/
def TrackRecord.bytes (r : TrackRecord) (take t : Nat) : List Byte :=
  leBytes 1 t ++ flagByte r.enabled ++ sourceBytes r.primary
    ++ (match r.alternate with
      | some p => flagByte true ++ leBytes 1 p.window ++ leBytes 1 p.lane
      | none => flagByte false ++ freeBytes take (2 * t) 2)
    ++ flagByte r.compare ++ leBytes 1 r.lossLimit ++ zeroBytes 3

/-- The GetTracks entry of track `t` (R38). -/
def Track.bytes (x : Track) (take t : Nat) : List Byte :=
  leBytes 1 t ++ x.record.bytes take t ++ leBytes 1 x.status.code ++ leBytes 1 x.run ++ leBytes 1 (lastCode x.last)
    ++ leBytes 4 x.absentFrames ++ leBytes 4 x.alternateWins ++ leBytes 4 x.compared ++ leBytes 4 x.disagreements

/-- How many entries GetTracks reports (R38). -/
def trackSpan (first count : Nat) : Nat := min count (128 - first)

/-- The GetTracks body (R38). -/
def State.tracksBody (s : State) (first count : Nat) : List Byte :=
  leBytes 1 (trackSpan first count)
    ++ (List.range (trackSpan first count)).flatMap fun i => 
      (s.tracks.getD (first + i) Track.reset).bytes s.cmd.taken (first + i)

/-! ### Windows (R23) -/

/-- A window record, in the encoding of a LoadWindows entry (R172, R173); `take` is the number of the packet taken. -/
def WindowRecord.bytes (r : WindowRecord) (take w : Nat) : List Byte :=
  leBytes 1 w ++ leBytes 1 r.lanes ++ leBytes 1 r.slots ++ leBytes 1 r.format.code ++ flagByte r.mirror.isSome
    ++ leBytes 1 r.liveLimit ++ zeroBytes 2 ++ leBytes 8 r.base
    ++ (match r.mirror with
      | some b => leBytes 8 b
      | none => freeBytes take (8 * w) 8)

/-- The counters of R24. -/
def WindowCounters.bytes (c : WindowCounters) : List Byte :=
  leBytes 4 c.completed ++ leBytes 4 c.stray ++ leBytes 4 c.late ++ leBytes 4 c.rewrite ++ leBytes 4 c.incomplete
    ++ leBytes 4 c.exhausted ++ leBytes 4 c.ignored

/-- The GetWindows entry of window `w` (R23). -/
def Window.bytes (x : Window) (take w : Nat) : List Byte :=
  match x.record with
  | none => zeroBytes 61
  | some r =>
    flagByte true ++ r.bytes take w ++ leBytes 1 x.liveness.code ++ flagByte x.changed ++ flagByte x.anchored
      ++ leBytes 1 x.anchor ++ optionBytes 4 x.reference ++ x.counts.bytes

/-- The GetWindows body (R23). -/
def State.windowsBody (s : State) : List Byte :=
  (List.range s.sess.windows.length).flatMap fun w => (s.sess.window w).bytes s.cmd.taken w

/-! ### Meters (R77) -/

/-- The GetMeters entry of a bus (R77). -/
def Bus.bytes (b : Bus) : List Byte :=
  leBytes 4 b.peak ++ leBytes 4 b.overCount ++ leBytes 4 b.overFrames ++ flagByte b.muteTarget
    ++ flagByte b.muteApplied ++ leBytes 1 b.target.length ++ leBytes 1 b.applied.length

/-- The GetMeters body (R77). -/
def State.metersBody (s : State) : List Byte := s.buses.flatMap Bus.bytes

/-! ### Streams (R128) -/

/-- A stream record, in the encoding of the SetStream body (R172, R173). DESIGN CHOICE (assumption 27): the bus numbers
beyond the bus count, and all eight bytes of a disabled stream's ring base, are reported as SetStream gave them. -/
def streamRecordBytes (b : StreamBody) : List Byte :=
  [b.stream, b.enabled, b.busCount, b.width, b.dither, b.policy, b.slotCount, 0] ++ leBytes 8 b.buses.toNat
    ++ leBytes 8 b.base.toNat ++ leBytes 2 b.watermark.toNat ++ leBytes 2 b.staleLimit.toNat ++ zeroBytes 4

/-- The state and counters of an enabled stream (R128). -/
def Stream.liveBytes (x : Stream) (slotSize : Nat) : List Byte :=
  leBytes 4 slotSize ++ leBytes 1 x.writePosition ++ leBytes 1 x.filledCount ++ optionBytes 1 x.fillingSlot
    ++ flagByte (decide (x.flawedCount ≠ 0)) ++ leBytes 1 x.flawedCount ++ flagByte x.watermarkArmed
    ++ flagByte x.staleArmed ++ leBytes 4 x.staleCount ++ leBytes 4 x.filled ++ leBytes 4 x.freed
    ++ leBytes 4 x.dropped ++ leBytes 4 x.overwritten ++ leBytes 4 x.late ++ leBytes 4 x.unmarked
    ++ x.slots.flatMap fun k => leBytes 1 k.state.code

/-- The GetStreams entry of a stream; `blockSize` is none where there is no session record (R128). -/
def Stream.bytes (x : Stream) (blockSize : Option Nat) : List Byte :=
  match x.record with
  | none => zeroBytes 72
  | some b =>
    flagByte true ++ streamRecordBytes b
      ++ (if b.isEnabled then
          x.liveBytes (match blockSize with
            | some n => b.slotSize n
            | none => 0)
        else zeroBytes 39)

/-- The GetStreams body (R128). -/
def State.streamsBody (s : State) : List Byte :=
  s.sw.streams.flatMap fun x => x.bytes (s.sess.record.map fun r => r.blockSize)

/-! ### The archive (R111) -/

/-- The area record, in the encoding of the SetArchive body (R172, R173). -/
def Area.bytes (a : Area) : List Byte :=
  leBytes 8 a.base ++ leBytes 1 a.sizeMiB ++ zeroBytes 1 ++ leBytes 2 a.count ++ leBytes 2 a.low ++ leBytes 2 a.high

/-- The OPEN segment, if any. -/
def ArchiveWriter.openEntry (w : ArchiveWriter) : Option Segment := w.openSegment.bind w.segment

/-- The counters of R94 and R112. -/
def ArchiveCounters.bytes (c : ArchiveCounters) : List Byte :=
  leBytes 4 c.coded ++ leBytes 4 c.verbatim ++ leBytes 4 c.escapes ++ leBytes 4 c.stagingDrops
    ++ leBytes 4 c.stagingPeak ++ leBytes 4 c.placed ++ leBytes 4 c.bytesPlaced ++ leBytes 4 c.fullDrops
    ++ leBytes 4 c.opened ++ leBytes 4 c.closed

/-- The byte of a data segment: state, settled flag, directory pending flag (R173). -/
def segmentByte (x : Segment) (pending : Bool) : List Byte :=
  leBytes 1 (x.state.code + (if x.settled then 4 else 0) + (if pending then 8 else 0))

/-- The GetArchive body (R111). -/
def State.archiveBody (s : State) : List Byte :=
  (match s.aw.area with
    | some a => flagByte true ++ a.bytes
    | none => zeroBytes 17)
    ++ flagByte s.aw.archiving ++ flagByte s.aw.full ++ flagByte s.aw.warning ++ flagByte s.aw.pendingDiscontinuity
    ++ leBytes 2 s.aw.freeCount ++ optionBytes 2 s.aw.openSegment ++ optionBytes 4 s.aw.writePosition
    ++ (match s.aw.openEntry with
      | some x => leBytes 4 x.count ++ leBytes 4 x.forwardedCount
      | none => freeBytes s.cmd.taken 0 8)
    ++ leBytes 1 s.aw.releaseOrder.length ++ leBytes 4 s.aw.stagingFree ++ s.aw.counters.bytes
    ++ (List.range s.aw.segments.length).flatMap fun i =>
      match s.aw.segments[i]? with
      | some x => segmentByte x (s.aw.recordPending s.path.queues.archive (i + 1))
      | none => []

/-! ### Reset causes (R160) -/

/-- The reset-cause set as one number: 1 POWER, 2 PATH, 4 RESTART (R168, R173). -/
def ResetCauses.value (c : ResetCauses) : Nat :=
  (if c.power then 1 else 0) + (if c.path then 2 else 0) + (if c.restart then 4 else 0)

end Sys2Proof.Machine
end

