-- ==== Sys2Proof/Machine/Functions.lean ====
section
/-! DEFINITION. The command functions at their owners: each checks in the order its rule gives, refuses with the
reason of the first check that fails and changes nothing, or acts whole (R5 to R12, R23, R27, R38, R58 to R60, R77,
R97, R98, R106, R111, R115, R128, R141, R157 to R161, R164). -/

namespace Sys2Proof.Machine

/-- The reason of the first check that fails. -/
def firstFailure : List (Bool × Reason) → Option Reason
  | [] => none
  | (ok, reason) :: rest => if ok then firstFailure rest else some reason

/-- A function: refused by the first check that fails, with nothing changed, else `act`. -/
def State.checked (s : State) (checks : List (Bool × Reason)) (act : State × Reply) : State × Reply :=
  match firstFailure checks with
  | some reason => (s, .refused reason)
  | none => act

/-- The session state is IDLE. -/
def State.isIdle (s : State) : Bool := s.sess.state == .idle

/-- A value brought into its range (00_scope.md, Clamping and refusal). -/
def clamp (low high x : Nat) : Nat := if x < low then low else if high < x then high else x

/-- An address field is a multiple of 4 KiB. -/
def isPageAligned (addr : Nat) : Bool := addr % pageSize == 0

/-- A flag field that its function checks is 0 or 1 (R170). -/
def isFlag (x : Nat) : Bool := decide (x ≤ 1)

/-! ### SetSession (R5) -/

/-- A block size of R4. -/
def isBlockSize (n : Nat) : Bool := n == 64 || n == 128 || n == 256

/-- The rate of a rate code (R170). -/
def rateOf (code : Nat) : Rate := if code = 1 then .r48k else .r96k

/-- SetSession (R5). -/
def State.setSession (s : State) (blockSize lateness rate stall : Nat) : State × Reply :=
  s.checked
    [(s.isIdle, .notIdle), (isBlockSize blockSize, .badValue), (decide (1 ≤ lateness ∧ lateness ≤ 4), .badValue),
     (decide (1 ≤ rate ∧ rate ≤ 2), .badValue)]
    (s.setSess { s.sess with record := some ⟨blockSize, lateness, clamp 100 100000 stall, rateOf rate⟩ }, .done [])

/-! ### LoadWindows (R6) -/

/-- The bytes of a window with N = 256 (R6, check 4). -/
def WindowEntry.span (e : WindowEntry) : Nat := e.slots * e.lanes * 1024

/-- Check 4 of R6 for one entry. -/
def WindowEntry.isValid (e : WindowEntry) : Bool :=
  decide (e.window ≤ 15) && decide (1 ≤ e.lanes ∧ e.lanes ≤ 32)
    && decide (e.slots % 2 = 0 ∧ 4 ≤ e.slots ∧ e.slots ≤ 64) && decide (e.format ≤ 1)
    && isPageAligned e.base && decide (e.base + e.span ≤ addressTop)
    && (!e.mirrorFlag || isPageAligned e.mirrorBase && decide (e.mirrorBase + e.span ≤ addressTop))

/-- The window record an entry gives (R1, R6). -/
def WindowEntry.record (e : WindowEntry) : WindowRecord where
  base := e.base
  lanes := e.lanes
  slots := e.slots
  format := if e.format = 0 then .left else .right
  mirror := if e.mirrorFlag then some e.mirrorBase else none
  liveLimit := if e.liveLimit = 0 then 1 else e.liveLimit

/-- The entry that names a window. -/
def entryOf (entries : List WindowEntry) (w : Nat) : Option WindowEntry := entries.find? fun e => e.window == w

/-- Check 6 of R6: the source is a lane of a window of the new table. -/
def sourceFits (entries : List WindowEntry) (p : Source) : Bool :=
  match entryOf entries p.window with
  | some e => decide (p.lane < e.lanes)
  | none => false

/-- Check 6 of R6 for one track. -/
def Track.fits (x : Track) (entries : List WindowEntry) : Bool :=
  !x.record.enabled
    || (x.record.primary.all fun p => sourceFits entries p) && (x.record.alternate.all fun p => sourceFits entries p)

/-- The windows from number `w` on with the records of a LoadWindows body (R6). DESIGN CHOICE (assumption 24): what
else a window number holds (anchor, reference, anchored flag, liveness, counts) stays as it was until Start sets it. -/
def replaceWindows (entries : List WindowEntry) : Nat → List Window → List Window
  | _, [] => []
  | w, x :: xs =>
    { x with record := (entryOf entries w).map WindowEntry.record } :: replaceWindows entries (w + 1) xs

/-- LoadWindows (R6), on a body of the right length. -/
def State.loadWindows (s : State) (body : List Byte) : State × Reply :=
  let entries := windowEntries body
  s.checked
    [(s.isIdle, .notIdle), (s.sess.record.isSome, .notConfigured), (decide (entries.length ≤ 16), .capacity),
     (entries.all WindowEntry.isValid, .badValue), (noRepeats (entries.map fun e => e.window), .duplicateEntry),
     (s.tracks.all fun x => x.fits entries, .badValue)]
    (s.setSess { s.sess with windows := replaceWindows entries 0 s.sess.windows }, .done [])

/-! ### LoadTracks (R27) -/

/-- The source is a lane of a loaded window (R27, check 3). -/
def SessionControl.hasLane (c : SessionControl) (p : Source) : Bool :=
  match (c.window p.window).record with
  | some r => decide (p.lane < r.lanes)
  | none => false

/-- Check 3 of R27 for one entry. -/
def TrackEntry.isValid (e : TrackEntry) (c : SessionControl) : Bool :=
  decide (e.track ≤ 127) && isFlag e.enabled && isFlag e.alternateFlag && isFlag e.compare
    && (e.enabled == 0 || c.hasLane e.primary && (e.alternateFlag == 0 || c.hasLane e.alternate))

/-- The sources an entry names, if it is enabled (R27, check 5). -/
def TrackEntry.sources (e : TrackEntry) : List Source :=
  if e.enabled = 1 then e.primary :: (if e.alternateFlag = 1 then [e.alternate] else []) else []

/-- The track record an entry gives (R25, R27). -/
def TrackEntry.record (e : TrackEntry) : TrackRecord where
  enabled := e.enabled == 1
  primary := some e.primary
  alternate := if e.alternateFlag = 1 then some e.alternate else none
  compare := e.compare == 1
  lossLimit := if e.lossLimit = 0 then 1 else e.lossLimit

/-- The tracks from number `t` on with the records of a LoadTracks body (R27). -/
def replaceTracks (entries : List TrackEntry) : Nat → List Track → List Track
  | _, [] => []
  | t, x :: xs =>
    { x with record := match entries.find? fun e => e.track == t with
        | some e => e.record
        | none => TrackRecord.default } :: replaceTracks entries (t + 1) xs

/-- LoadTracks (R27), on a body of the right length. -/
def State.loadTracks (s : State) (body : List Byte) : State × Reply :=
  let entries := trackEntries body
  s.checked
    [(s.isIdle, .notIdle), (decide (entries.length ≤ 128), .capacity),
     (entries.all fun e => e.isValid s.sess, .badValue), (noRepeats (entries.map fun e => e.track), .duplicateEntry),
     (noRepeats (entries.flatMap TrackEntry.sources), .duplicateEntry)]
    (s.setTracks (replaceTracks entries 0 s.tracks), .done [])

/-! ### LoadReleaseOrder (R98) -/

/-- LoadReleaseOrder (R98). -/
def State.loadReleaseOrder (s : State) (tracks : List Byte) : State × Reply :=
  s.checked
    [(s.isIdle, .notIdle), (decide (tracks.length ≤ 128), .capacity),
     (tracks.all fun t => decide (t.toNat ≤ 127), .badValue), (noRepeats tracks, .duplicateEntry)]
    (s.setAw { s.aw with releaseOrder := tracks.map fun t => t.toNat }, .done [])

/-! ### The bus functions (R58 to R60) -/

/-- LoadBus (R58). -/
def State.loadBus (s : State) (bus : Byte) (entries : List BusEntry) : State × Reply :=
  s.checked
    [(decide (bus.toNat ≤ 7), .badValue), (decide (entries.length ≤ 32), .capacity),
     (entries.all fun e => decide (e.track.toNat ≤ 127), .badValue),
     (noRepeats (entries.map fun e => e.track), .duplicateEntry)]
    (s.setBuses (s.buses.modify bus.toNat fun b =>
      { b with target := entries.map fun e => ⟨e.track.toNat, e.coefficient.toInt⟩ }), .done [])

/-- Check 3 of R59 for one entry. -/
def LevelEntryFits (buses : List Bus) (e : LevelEntry) : Bool :=
  match buses[e.bus.toNat]? with
  | some b => b.target.any fun i => i.track == e.track.toNat
  | none => false

/-- R59: an input of bus `n` with the coefficient of the entry that names it. -/
def BusInput.relevel (n : Nat) (entries : List LevelEntry) (i : BusInput) : BusInput :=
  match entries.find? fun e => e.bus.toNat == n && e.track.toNat == i.track with
  | some e => { i with coefficient := e.coefficient.toInt }
  | none => i

/-- R59: the buses from number `n` on with their new Target coefficients. -/
def relevelBuses (entries : List LevelEntry) : Nat → List Bus → List Bus
  | _, [] => []
  | n, b :: bs => { b with target := b.target.map (BusInput.relevel n entries) } :: relevelBuses entries (n + 1) bs

/-- SetBusLevel (R59). -/
def State.setBusLevel (s : State) (entries : List LevelEntry) : State × Reply :=
  s.checked
    [(decide (1 ≤ entries.length), .badValue), (decide (entries.length ≤ 16), .capacity),
     (entries.all (LevelEntryFits s.buses), .badValue),
     (noRepeats (entries.map fun e => (e.bus, e.track)), .duplicateEntry)]
    (s.setBuses (relevelBuses entries 0 s.buses), .done [])

/-- R60: the buses from number `n` on with their mute Targets. -/
def muteBuses (selection : Byte) (on : Bool) : Nat → List Bus → List Bus
  | _, [] => []
  | n, b :: bs =>
    (if selection.getLsbD n then { b with muteTarget := on } else b) :: muteBuses selection on (n + 1) bs

/-- SetBusMute (R60). -/
def State.setBusMute (s : State) (selection setting : Byte) : State × Reply :=
  s.checked [(isFlag setting.toNat, .badValue)]
    (s.setBuses (muteBuses selection (setting == 1) 0 s.buses), .done [])

/-! ### SetStream (R115) -/

/-- Checks 4 to 11 of R115, for an enabled stream. -/
def streamChecks (b : StreamBody) : List (Bool × Reason) :=
  [(decide (1 ≤ b.busCount.toNat), .badValue), (decide (b.busCount.toNat ≤ 8), .capacity),
   (b.busList.all fun k => decide (k ≤ 7), .badValue),
   (isFlag b.width.toNat && isFlag b.dither.toNat && !(b.dither == 1 && b.width == 1), .badValue),
   (isPageAligned b.base.toNat, .badValue), (decide (4 ≤ b.slotCount.toNat ∧ b.slotCount.toNat ≤ 64), .badValue),
   (isFlag b.policy.toNat, .badValue),
   (decide (b.base.toNat + b.slotCount.toNat * b.slotSize 256 ≤ addressTop), .badValue),
   (noRepeats b.busList, .duplicateEntry)]

/-- The tuning values of an enabled stream in their ranges (R115). -/
def clampStream (b : StreamBody) : StreamBody :=
  { b with
    watermark := BitVec.ofNat 16 (clamp 1 b.slotCount.toNat b.watermark.toNat)
    staleLimit := BitVec.ofNat 16 (clamp 1 1000 b.staleLimit.toNat) }

/-- SetStream (R115). -/
def State.setStream (s : State) (b : StreamBody) : State × Reply :=
  s.checked
    ([(s.isIdle, .notIdle), (decide (b.stream.toNat ≤ 3), .badValue), (isFlag b.enabled.toNat, .badValue)]
      ++ if b.enabled == 1 then streamChecks b else [])
    (s.setSw (s.sw.modifyStream b.stream.toNat fun x =>
      Stream.resetRing { x with record := some (if b.enabled == 1 then clampStream b else b) } b.slotCount.toNat),
      .done [])

/-! ### The archive functions (R97, R106) -/

/-- A segment size of R96. -/
def isSegmentSize (n : Nat) : Bool := n == 1 || n == 2 || n == 4 || n == 8 || n == 16 || n == 32 || n == 64

/-- The area record a SetArchive body gives (R96). -/
def areaOf (b : ArchiveBody) : Area := ⟨b.base.toNat, b.sizeMiB.toNat, b.count.toNat, b.low.toNat, b.high.toNat⟩

/-- SetArchive (R97). -/
def State.setArchive (s : State) (b : ArchiveBody) : State × Reply :=
  let a := areaOf b
  s.checked
    [(s.isIdle, .notIdle), (s.aw.segments.all fun x => x.state == .free, .notEmpty),
     (isSegmentSize a.sizeMiB, .badValue), (decide (2 ≤ a.count ∧ a.count ≤ 256), .badValue),
     (a.base % a.segmentBytes == 0, .badValue), (decide (a.base + a.count * a.segmentBytes ≤ addressTop), .badValue),
     (!a.region.overlaps s.straps.commandArea, .overlap), (decide (a.low < a.high ∧ a.high ≤ a.count - 1), .badValue)]
    (s.setAw (s.aw.configure a), .done [])

/-- The segment is a settled CLOSED data segment (R106, check 3). -/
def ArchiveWriter.isReleasable (w : ArchiveWriter) (n : Nat) : Bool :=
  match w.segment n with
  | some x => x.state == .closed && x.settled
  | none => false

/-- ReleaseSegment (R106). -/
def State.releaseSegment (s : State) (n : Nat) : State × Reply :=
  let w := s.aw.freeAt n
  s.checked
    [(s.aw.area.isSome, .notConfigured), (decide (n < (s.aw.area.map fun a => a.count).getD 0), .badValue),
     (s.aw.isReleasable n, .notClosed)]
    ((s.setAw w.evaluateWarning).fileAll (w.warningRecords s.ft.newest), .done [])

/-! ### SetReports (R164, R168) -/

/-- A record count of R164. -/
def isRecordCount (n : Nat) : Bool := [16, 32, 64, 128, 256, 512, 1024, 2048, 4096].contains n

/-- The eight flags of a flag field: bit c is the flag of class c. -/
def classFlags (field : BitVec 64) : BitVec 8 :=
  BitVec.ofNat 8 ((List.range 8).foldl (fun n c => n + (if field.getLsbD (8 * c) then 2 ^ c else 0)) 0)

/-- Every byte of a flag field is 0 or 1 (R164, check 1). -/
def areFlags (field : BitVec 64) : Bool := (leBytes 8 field.toNat).all fun b => isFlag b.toNat

/-- R168: the STARTUP record. -/
def startupRecord (causes : ResetCauses) (count : Nat) : Record := ⟨.startup, 0, none, causes.value, count⟩

/-- R164, R168: the Report Writer with new settings. -/
def ReportWriter.configure (w : ReportWriter) (cfg : ReportSettings) (causes : ResetCauses) : ReportWriter where
  settings := some cfg
  index := 0
  serial := 0
  queue := if w.startup then [⟨startupRecord causes cfg.count, cfg.pulses.getLsbD 0⟩] else []
  lost := 0
  startup := false

/-- SetReports (R164). -/
def State.setReports (s : State) (b : ReportsBody) : State × Reply :=
  let ring := reportRegion b.base.toNat b.count.toNat
  s.checked
    [(areFlags b.records && areFlags b.pulses, .badValue), (isRecordCount b.count.toNat, .badValue),
     (isPageAligned b.base.toNat, .badValue), (decide (ring.base + ring.length ≤ addressTop), .badValue),
     (!s.regionsButReports.any fun r => r.overlaps ring, .overlap)]
    (s.setRw (s.rw.configure ⟨b.base.toNat, b.count.toNat, classFlags b.records, classFlags b.pulses⟩ s.cmd.causes),
      .done [])

/-! ### SetInsertion (R141) -/

/-- SetInsertion (R141). DESIGN CHOICE (assumption 28): a share counter above the new P keeps its value. -/
def State.setInsertion (s : State) (b : InsertionBody) : State × Reply :=
  let levels : PerProducer Nat := ⟨b.response.toNat, b.report.toNat, b.stream.toNat, b.mirror.toNat, b.archive.toNat⟩
  s.checked [(Producer.all.all fun p => decide (levels.get p ≤ 3), .badValue)]
    (s.setPath { s.path with levels := levels, shareLimit := clamp 1 16 b.share.toNat }, .done [])

/-! ### Start (R7) -/

/-- The Frame Table at Start (R7, R55). -/
def FrameTable.startSession (enabled : Nat) : FrameTable := ⟨[], none, 0, none, enabled, FrameCounters.zero⟩

/-- The meters of a bus cleared (R77). -/
def Bus.clearMeters (b : Bus) : Bus := { b with peak := 0, overCount := 0, overFrames := 0 }

/-- Session Control at an accepted Start (R7). -/
def SessionControl.startSession (c : SessionControl) : SessionControl where
  state := .armed
  record := c.record
  serial := satInc c.serial
  resume := none
  timer := none
  windows := c.windows.map Window.startSession

/-- A SESSION_STATE record where no frame applies (R7, R12, R13). -/
def stateRecord (new old : SessionState) : Record := ⟨.sessionState, 0, none, new.code, old.code⟩

/-- The track is enabled. -/
def State.isEnabled (s : State) (t : Nat) : Bool := (s.track t).record.enabled

/-- R7: an accepted Start, with what every other block does at it (R33, R38, R54, R55, R64, R75, R77, R79, R94, R95,
R112, R113, R129, R130, R136, R142, R144). -/
def State.startSession (s : State) : State :=
  (((((((((s.setSess s.sess.startSession).setFt (FrameTable.startSession (enabledCount s.tracks))).setBuffers
    []).setTracks (s.tracks.map Track.startSession)).setBuses (s.buses.map fun b => b.apply.clearMeters)).setAw
    s.aw.startSession).setSw s.sw.startSession).setPath s.path.startSession)).file (stateRecord .armed .idle)

/-- Start (R7). -/
def State.start (s : State) : State × Reply :=
  s.checked
    [(s.isIdle, .notIdle), (s.sess.record.isSome, .notConfigured), (decide (1 ≤ enabledCount s.tracks), .notConfigured),
     (!anyOverlap s.regions, .overlap), (s.aw.releaseOrder.all s.isEnabled, .unknownTrack)]
    (s.startSession, .done [])

/-! ### Stop (R12) -/

/-- The end of a session by closing, at every block (R13, R37, R109). -/
def State.endSession (s : State) : State :=
  ((s.setSess { s.sess with state := .idle, timer := none }).setTracks (s.tracks.map Track.endSession)).setAw
    s.aw.endSession

/-- R12: Stop in RUNNING or STALLED (R51, R109). -/
def State.beginDraining (s : State) : State :=
  let s1 := (s.setSess { s.sess with state := .draining, timer := none }).file (stateRecord .draining s.sess.state)
  let s2 := s1.closeAll .stop
  s2.setAw s2.aw.stopSession

/-- Stop (R12). -/
def State.stop (s : State) : State × Reply :=
  match s.sess.state with
  | .idle => (s, .done [])
  | .armed => (s.endSession.file (stateRecord .idle .armed), .done [])
  | .running => (s.beginDraining, .later)
  | .stalled => (s.beginDraining, .later)
  | .draining => (s, .later)

/-! ### PinSettings and Restart (R158, R159) -/

/-- PinSettings (R158). -/
def State.pinSettings (s : State) (setting : Byte) : State × Reply :=
  s.checked [(isFlag setting.toNat, .badValue)] (s.setCmd { s.cmd with pin := setting == 1 }, .done [])

/-- Session Control at a path reset, or at a Restart with the record and windows it leaves (R14). -/
def SessionControl.afterReset (c : SessionControl) (record : Option SessionRecord) (windows : List Window) :
    SessionControl where
  state := .idle
  record := record
  serial := c.serial
  resume := none
  timer := none
  windows := windows

/-- The Frame Table at a path reset or a Restart (R53, R55). -/
def FrameTable.afterReset (t : FrameTable) : FrameTable := ⟨[], none, 0, none, 0, t.counters⟩

/-- A bus at an unpinned Restart (R78). -/
def Bus.resetUnpinned (b : Bus) : Bus := ⟨[], [], false, false, b.peak, b.overCount, b.overFrames⟩

/-- The Report Writer at a path reset or a pinned Restart (R169). -/
def ReportWriter.resetKept (w : ReportWriter) : ReportWriter := { w with queue := [], startup := true }

/-- The Report Writer at an unpinned Restart (R169). -/
def ReportWriter.resetUnpinned (w : ReportWriter) : ReportWriter := ⟨none, 0, 0, [], w.lost, true⟩

/-- What every block but the Path Unit, the Command Unit and the Archive Writer does at a path reset or a pinned
Restart (R14, R37, R53, R78, R130, R169). -/
def State.resetKept (s : State) : State :=
  (((((s.setSess (s.sess.afterReset s.sess.record (s.sess.windows.map Window.resetKept))).setFt
    s.ft.afterReset).setBuffers []).setTracks (s.tracks.map Track.resetKept)).setSw s.sw.resetKept).setRw
    s.rw.resetKept

/-- What they do at an unpinned Restart, with the Archive Writer (R14, R37, R53, R78, R113, R130, R169). -/
def State.resetUnpinned (s : State) : State :=
  (((((((s.setSess (s.sess.afterReset none (s.sess.windows.map Window.resetUnpinned))).setFt
    s.ft.afterReset).setBuffers []).setTracks (s.tracks.map fun _ => Track.reset)).setBuses
    (s.buses.map Bus.resetUnpinned)).setSw s.sw.resetUnpinned).setRw s.rw.resetUnpinned).setAw s.aw.resetUnpinned

/-- Restart (R159). -/
def State.restart (s : State) : State × Reply :=
  let s1 := if s.cmd.pin then s.resetKept.setAw (s.aw.resetKept s.path.queues.archive true) else s.resetUnpinned
  (((s1.setPath (s.path.restart s.cmd.pin)).setCmd { s.cmd with causes := { s.cmd.causes with restart := true } }),
    .done [])

/-! ### The queries -/

/-- GetFailReason (R157). -/
def State.getFailReason (s : State) : State × Reply :=
  (s.setCmd { s.cmd with failReason := .none }, .done (leBytes 1 s.cmd.failReason.code))

/-- GetSession (R161). -/
def State.getSession (s : State) : State × Reply := (s, .done s.sessionBody)

/-- GetTracks (R38). -/
def State.getTracks (s : State) (first count : Byte) : State × Reply :=
  s.checked
    [(decide (first.toNat ≤ 127), .badValue), (decide (1 ≤ count.toNat ∧ count.toNat ≤ 24), .badValue)]
    (s, .done (s.tracksBody first.toNat count.toNat))

/-- GetWindows (R23). -/
def State.getWindows (s : State) : State × Reply :=
  (s.setSess { s.sess with windows := s.sess.windows.map fun x => { x with changed := false } }, .done s.windowsBody)

/-- GetMeters (R77). -/
def State.getMeters (s : State) : State × Reply := (s.setBuses (s.buses.map Bus.clearMeters), .done s.metersBody)

/-- GetStreams (R128). -/
def State.getStreams (s : State) : State × Reply := (s, .done s.streamsBody)

/-- GetArchive (R111). -/
def State.getArchive (s : State) : State × Reply := (s, .done s.archiveBody)

/-- GetResetCause (R160). -/
def State.getResetCause (s : State) : State × Reply :=
  (s.setCmd { s.cmd with causes := ⟨false, false, false⟩ }, .done (leBytes 1 s.cmd.causes.value))

/-! ### A function by its number (R151, step 5) -/

/-- The owner of a function, on a whole body. -/
def runFunction (fn : Function) : Owner := fun body s =>
  match fn with
  | .setSession => s.setSession (fieldAt body 0 2) (fieldAt body 2 1) (fieldAt body 3 1) (fieldAt body 4 4)
  | .loadWindows => s.loadWindows body
  | .loadTracks => s.loadTracks body
  | .loadReleaseOrder => s.loadReleaseOrder (releaseTracks body)
  | .loadBus => s.loadBus (byteAt body 0) (busEntries body)
  | .setBusLevel => s.setBusLevel (levelEntries body)
  | .setBusMute => s.setBusMute (byteAt body 0) (byteAt body 1)
  | .setStream => s.setStream (streamBody body)
  | .setArchive => s.setArchive (archiveBody body)
  | .releaseSegment => s.releaseSegment (fieldAt body 0 2)
  | .setReports => s.setReports (reportsBody body)
  | .setInsertion => s.setInsertion (insertionBody body)
  | .start => s.start
  | .stop => s.stop
  | .pinSettings => s.pinSettings (byteAt body 0)
  | .restart => s.restart
  | .getFailReason => s.getFailReason
  | .getSession => s.getSession
  | .getTracks => s.getTracks (byteAt body 0) (byteAt body 1)
  | .getWindows => s.getWindows
  | .getMeters => s.getMeters
  | .getStreams => s.getStreams
  | .getArchive => s.getArchive
  | .getResetCause => s.getResetCause

end Sys2Proof.Machine
end

