-- ==== Sys2Proof/Machine/Events.lean ====
section
/-! DEFINITION. The events the rows of the opcode table share: what a forwarding report owes (R13, R99, R122, R138,
R153), the two kinds of grant (R134, R138), completions (R133, R142), the stall (R10), the path reset (R147), and
the lines the producers enqueue (R105, R122, R137, R153, R166). -/

namespace Sys2Proof.Machine

/-! ### What a forwarding report owes -/

/-- R122, R125: the header line of FILLING slot `slot` of stream `k` has been forwarded. -/
def State.fillSlot (s : State) (k slot g : Nat) : State :=
  match (s.sw.stream k).enabledRecord with
  | some b =>
    if ((s.sw.stream k).slots.getD slot Slot.empty).state == .filling then
      (s.setSw (s.sw.modifyStream k fun x => x.slotFilled b slot)).fileAll
        ((s.sw.stream k).watermarkRecords b k slot g)
    else s
  | none => s

/-- R99: the CLOSED directory record of segment `n` has been forwarded. -/
def State.settleSegment (s : State) (n : Nat) : State := (s.setAw (s.aw.settle n)).fileAll (s.aw.settleRecords n)

/-- The effect of a forwarding report. -/
def State.takeReport (s : State) (r : Report) : State :=
  match r with
  | .commandEnd => (s.setReport none).endCommand
  | .slotFilled k slot g => (s.setReport none).fillSlot k slot g
  | .segmentSettled n => (s.setReport none).settleSegment n

/-- The Archive Writer holds no archive frame that is staged or queued (R13, R105). -/
def ArchiveWriter.holdsNoFrame (w : ArchiveWriter) (queue : List Inserted) : Bool :=
  !(w.out.any fun o => match o with
      | .frame _ => true
      | .directory _ _ _ => false)
    && !(queue.any fun l => match l.note with
      | .frameLine => true
      | .frameEnd _ _ _ _ => true
      | _ => false)

/-- R13: DRAINING is over. -/
def State.drainOver (s : State) : Bool :=
  s.sess.state == .draining && s.sw.drained s.path.queues.stream && s.aw.holdsNoFrame s.path.queues.archive
    && s.aw.openSegment.isNone && s.aw.closing.isNone

/-- R13, R37, R109: DRAINING ends, and Stop is answered. -/
def State.endDraining (s : State) : State :=
  let s1 := s.endSession.file (stateRecord .idle .draining)
  s1.setCmd (s1.cmd.settleOutcome 0 .none [])

/-- The report that waits is taken, and DRAINING ends if it is over (assumption 5). DESIGN CHOICE (assumption 33): the
SEGMENT_CLOSED record of the segment whose settling ends DRAINING enters the record queue before the SESSION_STATE
record. -/
def State.owed (s : State) : State :=
  let s1 := match s.report with
    | some r => s.takeReport r
    | none => s
  if s1.drainOver then s1.endDraining else s1

/-- The state in which a command finds the part: no signal on the outputs, and every event that is owed taken. -/
def State.ready (s : State) : State := (s.setPorts Ports.quiet).owed

/-! ### The take of a passing request (R134, R135) -/

/-- R135, R136: the head request, a write to guarded target `t`, is refused. -/
def State.refuseHead (s : State) (r : Passing) (t : Nat) : State :=
  ((s.setPorts ⟨none, some ⟨r.tag, .writeRefused⟩, false⟩).setPath
    (s.path.dropHead.countRefusal t s.ft.newest)).fileAll (s.path.refusalRecords t r.tag s.ft.newest)

/-- R131: the head request is issued on the downstream port. -/
def State.forwardHead (s : State) (r : Passing) : State :=
  (s.setPorts ⟨some ⟨r.addr, r.write, r.tag⟩, none, false⟩).setPath
    (s.path.dropHead.recordPassing r s.straps.passOnly)

/-- R134: a forwarded write is handed to the windows that hold its line and to the Command Slot. -/
def State.ownWrite (s : State) (addr : Nat) (d : WriteData) : State :=
  let s1 := (s.sess.windowsAt addr).foldl (fun x w => x.windowOwner addr d w) s
  if s.straps.commandSlot.contains addr then
    s1.commandWrite runFunction ((addr - s.straps.commandSlot.base) / 64) d
  else s1

/-- R134: a forwarded read is handed to the stream rings that hold its line. -/
def State.ownRead (s : State) (addr : Nat) : State :=
  s.setSw ((s.streamsAt addr).foldl (fun x k => x.read s.sess.blockSize addr k) s.sw)

/-- R134: the owners of a forwarded request. -/
def State.own (s : State) (r : Passing) : State :=
  match r.write with
  | some d => s.ownWrite r.addr d
  | none => s.ownRead r.addr

/-- R131, R134, R135, R146: the head of the forward queue is taken. -/
def State.takeHead (s : State) (r : Passing) : State :=
  if s.straps.passOnly then s.forwardHead r
  else
    match r.write, s.guardTarget r.addr with
    | some _, some t => s.refuseHead r t
    | _, _ => (s.forwardHead r).own r

/-! ### The forwarding of an inserted line (R138) -/

/-- The forwarding of the line gives a pulse on the notify line (R167). -/
def Note.pulses : Note → Bool
  | .record pulse => pulse
  | _ => false

/-- R138: what the line's producer does at its forwarding report; an effect that is a row of its own becomes the
report that waits. -/
def State.reportForwarded (s : State) (note : Note) : State :=
  match note with
  | .finalHeader =>
    let c := s.cmd.finalForwarded
    (s.setCmd c).setReport (if c.working.all fun w => w.finals == 0 then some .commandEnd else s.report)
  | .streamHeader k slot g => s.setReport (some (.slotFilled k slot g))
  | .directoryRecord n state =>
    if state == .closed && s.aw.isUnsettled n then s.setReport (some (.segmentSettled n)) else s
  | .frameEnd n g count used => s.setAw (s.aw.frameForwarded n g count used)
  | .responseLine => s
  | .record _ => s
  | .streamPayload => s
  | .mirrorCopy => s
  | .directoryHeader => s
  | .frameLine => s

/-- R138, R167: the head line of a queue is forwarded. -/
def State.forwardInserted (s : State) (p : Producer) : State :=
  match s.path.queues.get p with
  | [] => s
  | l :: _ =>
    ((s.setPorts ⟨some ⟨l.addr, some l.write, 0⟩, none, l.note.pulses⟩).setPath
      (s.path.issueInserted p)).reportForwarded l.note

/-! ### Completions (R133, R142) -/

/-- R133: the completion of an outstanding request; one that names none is discarded (R147, assumption 9). -/
def State.complete (s : State) (order : Nat) (c : Completion) : State :=
  let isWrite := match c with
    | .writeDone => true
    | .writeRefused => true
    | .readData _ => false
    | .readRefused => false
  match s.path.findOutstanding order isWrite with
  | none => s
  | some o =>
    match o.origin with
    | .passing tag => (s.setPorts ⟨none, some ⟨tag, c⟩, false⟩).setPath (s.path.endOutstanding order)
    | .inserted p =>
      match c with
      | .writeRefused =>
        (s.setPath ((s.path.endOutstanding order).countError p s.ft.newest)).fileAll
          (s.path.errorRecords p o.addr s.ft.newest)
      | _ => s.setPath (s.path.endOutstanding order)

/-! ### The stall (R10) -/

/-- R10, step 3: a loaded window becomes unanchored; an unloaded number keeps what it holds (assumption 24). -/
def Window.unanchor (x : Window) : Window :=
  match x.record with
  | some _ => { x with anchored := false }
  | none => x

/-- R10, R50: the stall timer expires in RUNNING. -/
def State.stall (s : State) : State :=
  let s1 := (s.setSess { s.sess with state := .stalled, timer := none }).closeAll .stall
  let s2 := s1.setSess { s1.sess with windows := s1.sess.windows.map Window.unanchor }
  s2.file ⟨.stall, 0, s2.ft.newest, s.ft.closeAllCount, s.sess.stallTime⟩

/-- One microsecond of the reference clock (R9, R10; assumption 2). -/
def State.tick (s : State) : State :=
  match s.sess.state, s.sess.timer with
  | .running, some left => if left ≤ 1 then s.stall else s.setSess { s.sess with timer := some (left - 1) }
  | _, _ => s

/-! ### The path reset (R147) -/

/-- R147, R162: the Path Unit at a path reset, with the ABANDONED header of a command that was WORKING. -/
def State.resetPath (s : State) : State :=
  let s1 := (s.setPath s.path.pathReset).setCmd s.cmd.pathReset
  match s.cmd.working with
  | none => s1
  | some w =>
    let s2 := s1.enqueueResponse 0 (abandonedHeader w.seq w.function (w.flags &&& flagOverrun)) .responseLine
    s2.setPath { s2.path with abandonedFirst := true }

/-- A path reset at every block (R14, R37, R53, R78, R110, R130, R146, R147, R162, R169). -/
def State.pathReset (s : State) : State :=
  if s.straps.passOnly then s.setPath s.path.passOnlyReset
  else (s.resetKept.setAw (s.aw.resetKept s.path.queues.archive false)).resetPath

/-! ### Lines the producers enqueue (R137) -/

/-- R153: the next line of the Command Unit's output list. -/
def State.enqueueResponseLine (s : State) : State :=
  match s.cmd.headLine with
  | some l =>
    if s.path.hasRoom .response then (s.enqueueResponse l.index l.data l.note).setCmd s.cmd.dropHeadLine else s
  | none => s

/-- R170, R177: the 32 bytes of a report record. -/
def Record.bytes (r : Record) (serial : Nat) : List Byte :=
  padTo 32 (leBytes 4 serial ++ leBytes 1 r.kind.code ++ leBytes 1 r.kind.classCode ++ leBytes 2 r.subject
    ++ optionBytes 4 r.frame ++ leBytes 4 r.value ++ leBytes 4 r.second)

/-- R166, step 2: the line that holds record position `index`, with the record in its half and the mask of that
half. DESIGN CHOICE (assumption 35): the 32 data bytes that the mask does not enable are zeros. -/
def recordLine (bytes : List Byte) (index : Nat) : WriteData :=
  if index % 2 = 0 then ⟨bytes ++ zeroBytes 32, 0x00000000FFFFFFFF#64⟩
  else ⟨zeroBytes 32 ++ bytes, 0xFFFFFFFF00000000#64⟩

/-- R166, step 4: the ring position after a record is written. -/
def ReportWriter.advance (w : ReportWriter) (count : Nat) : ReportWriter :=
  { w with
    queue := w.queue.tail
    index := if w.index + 1 < count then w.index + 1 else 0
    serial := satInc w.serial }

/-- R166: the head record is given its serial and position, and its line is enqueued. -/
def State.writeRecord (s : State) : State :=
  match s.rw.settings, s.rw.queue with
  | some cfg, f :: _ =>
    if s.path.hasRoom .report then
      (s.setPath (s.path.enqueue .report ((cfg.base + 32 * s.rw.index) / 64 * 64)
        (recordLine (f.record.bytes s.rw.serial) s.rw.index) (.record f.pulse))).setRw (s.rw.advance cfg.count)
    else s
  | _, _ => s

/-- R122: the next line of the stream frame at the head of the output list. -/
def State.enqueueStreamLine (s : State) : State :=
  match s.sw.headLine with
  | some l =>
    if s.path.hasRoom .stream then
      (s.setPath (s.path.enqueue .stream l.addr ⟨l.data, fullMask⟩ l.note)).setSw s.sw.dropHeadLine
    else s
  | none => s

/-- R105: the next line of the Archive Writer's output list. -/
def State.enqueueArchiveLine (s : State) : State :=
  match s.aw.headLine with
  | some l =>
    if s.path.hasRoom .archive then
      (s.setPath (s.path.enqueue .archive l.addr ⟨l.data, fullMask⟩ l.note)).setAw s.aw.dropHeadLine
    else s
  | none => s

/-! ### The take of a packet of one function (R150, R151, R155) -/

/-- A well-formed single-part packet of function `fn` with sequence `seq` is submitted, and its owner is `run`. -/
def State.takeFunction (s : State) (seq : Byte) (fn : Function) (run : State → State × Reply) : State :=
  s.ready.submit seq fun x => (x.beginTake seq (BitVec.ofNat 16 fn.number)).takeSingle run

/-- A packet of a function that may be sent in parts; a body above 1008 bytes fails check 5 (R152). -/
def State.takeTable (s : State) (seq : Byte) (fn : Function) (part : Part) (body : List Byte) : State :=
  s.ready.submit seq fun x =>
    let y := x.beginTake seq (BitVec.ofNat 16 fn.number)
    if 1008 < body.length then y.failCheck flagShortBody else y.takePart fn (runFunction fn) part body

end Sys2Proof.Machine
end

