-- ==== Sys2Proof/Machine/BlockRows.lean ====
section
/-! DEFINITION. The meanings of the rows that the blocks take of themselves: the four events that follow the
forwarding of an inserted line, each of which acts only where it is owed (assumption 5), and the four enqueues, each
of one line (assumption 7). -/

namespace Sys2Proof.Machine

/-- DRAINING_END (R13). -/
def execDrainingEnd (s : State) : Host.Outcome State Fault Refusal :=
  let s1 := s.setPorts Ports.quiet
  if s1.drainOver then .next s1.endDraining else .next s1

/-- COMMAND_END (R153). -/
def execCommandEnd (s : State) : Host.Outcome State Fault Refusal :=
  let s1 := s.setPorts Ports.quiet
  match s1.report with
  | some .commandEnd => .next (s1.takeReport .commandEnd)
  | _ => .next s1

/-- SLOT_FILLED (R122). -/
def execSlotFilled (s : State) : Host.Outcome State Fault Refusal :=
  let s1 := s.setPorts Ports.quiet
  match s1.report with
  | some (.slotFilled k slot g) => .next (s1.takeReport (.slotFilled k slot g))
  | _ => .next s1

/-- SEGMENT_SETTLED (R99). -/
def execSegmentSettled (s : State) : Host.Outcome State Fault Refusal :=
  let s1 := s.setPorts Ports.quiet
  match s1.report with
  | some (.segmentSettled n) => .next (s1.takeReport (.segmentSettled n))
  | _ => .next s1

/-- RESPONSE_LINE_ENQUEUE (R153). -/
def execResponseLineEnqueue (s : State) : Host.Outcome State Fault Refusal := .next s.ready.enqueueResponseLine

/-- REPORT_RECORD_WRITE (R166). -/
def execReportRecordWrite (s : State) : Host.Outcome State Fault Refusal := .next s.ready.writeRecord

/-- STREAM_LINE_ENQUEUE (R122). -/
def execStreamLineEnqueue (s : State) : Host.Outcome State Fault Refusal := .next s.ready.enqueueStreamLine

/-- ARCHIVE_LINE_ENQUEUE (R105). -/
def execArchiveLineEnqueue (s : State) : Host.Outcome State Fault Refusal := .next s.ready.enqueueArchiveLine

end Sys2Proof.Machine
end

