-- ==== Sys2Proof/Machine/FunctionRows.lean ====
section
/-! DEFINITION. The meanings of the function rows: the submission of a packet of the function that passes checks 1 to
6 and whose fields are the row's operands (R150 to R156). -/

namespace Sys2Proof.Machine

/-- SET_SESSION (R5). -/
def execSetSession (seq : Byte) (blockSize : BitVec 16) (lateness rate : Byte) (stall : BitVec 32) (s : State) :
    Host.Outcome State Fault Refusal :=
  .next (s.takeFunction seq .setSession fun x => x.setSession blockSize.toNat lateness.toNat rate.toNat stall.toNat)

/-- LOAD_WINDOWS (R6). -/
def execLoadWindows (seq : Byte) (part : Part) (body : List Byte) (s : State) : Host.Outcome State Fault Refusal :=
  .next (s.takeTable seq .loadWindows part body)

/-- LOAD_TRACKS (R27). -/
def execLoadTracks (seq : Byte) (part : Part) (body : List Byte) (s : State) : Host.Outcome State Fault Refusal :=
  .next (s.takeTable seq .loadTracks part body)

/-- LOAD_RELEASE_ORDER (R98). -/
def execLoadReleaseOrder (seq : Byte) (tracks : List Byte) (s : State) : Host.Outcome State Fault Refusal :=
  .next (s.takeFunction seq .loadReleaseOrder fun x => x.loadReleaseOrder tracks)

/-- LOAD_BUS (R58). -/
def execLoadBus (seq bus : Byte) (entries : List BusEntry) (s : State) : Host.Outcome State Fault Refusal :=
  .next (s.takeFunction seq .loadBus fun x => x.loadBus bus entries)

/-- SET_BUS_LEVEL (R59). -/
def execSetBusLevel (seq : Byte) (entries : List LevelEntry) (s : State) : Host.Outcome State Fault Refusal :=
  .next (s.takeFunction seq .setBusLevel fun x => x.setBusLevel entries)

/-- SET_BUS_MUTE (R60). -/
def execSetBusMute (seq selection setting : Byte) (s : State) : Host.Outcome State Fault Refusal :=
  .next (s.takeFunction seq .setBusMute fun x => x.setBusMute selection setting)

/-- SET_STREAM (R115). -/
def execSetStream (seq : Byte) (body : StreamBody) (s : State) : Host.Outcome State Fault Refusal :=
  .next (s.takeFunction seq .setStream fun x => x.setStream body)

/-- SET_ARCHIVE (R97). -/
def execSetArchive (seq : Byte) (body : ArchiveBody) (s : State) : Host.Outcome State Fault Refusal :=
  .next (s.takeFunction seq .setArchive fun x => x.setArchive body)

/-- RELEASE_SEGMENT (R106). -/
def execReleaseSegment (seq : Byte) (segment : BitVec 16) (s : State) : Host.Outcome State Fault Refusal :=
  .next (s.takeFunction seq .releaseSegment fun x => x.releaseSegment segment.toNat)

/-- SET_REPORTS (R164). -/
def execSetReports (seq : Byte) (body : ReportsBody) (s : State) : Host.Outcome State Fault Refusal :=
  .next (s.takeFunction seq .setReports fun x => x.setReports body)

/-- SET_INSERTION (R141). -/
def execSetInsertion (seq : Byte) (body : InsertionBody) (s : State) : Host.Outcome State Fault Refusal :=
  .next (s.takeFunction seq .setInsertion fun x => x.setInsertion body)

/-- START (R7). -/
def execStart (seq : Byte) (s : State) : Host.Outcome State Fault Refusal :=
  .next (s.takeFunction seq .start State.start)

/-- STOP (R12). -/
def execStop (seq : Byte) (s : State) : Host.Outcome State Fault Refusal :=
  .next (s.takeFunction seq .stop State.stop)

/-- PIN_SETTINGS (R158). -/
def execPinSettings (seq setting : Byte) (s : State) : Host.Outcome State Fault Refusal :=
  .next (s.takeFunction seq .pinSettings fun x => x.pinSettings setting)

/-- RESTART (R159). -/
def execRestart (seq : Byte) (s : State) : Host.Outcome State Fault Refusal :=
  .next (s.takeFunction seq .restart State.restart)

/-- GET_FAIL_REASON (R157). -/
def execGetFailReason (seq : Byte) (s : State) : Host.Outcome State Fault Refusal :=
  .next (s.takeFunction seq .getFailReason State.getFailReason)

/-- GET_SESSION (R161). -/
def execGetSession (seq : Byte) (s : State) : Host.Outcome State Fault Refusal :=
  .next (s.takeFunction seq .getSession State.getSession)

/-- GET_TRACKS (R38). -/
def execGetTracks (seq first count : Byte) (s : State) : Host.Outcome State Fault Refusal :=
  .next (s.takeFunction seq .getTracks fun x => x.getTracks first count)

/-- GET_WINDOWS (R23). -/
def execGetWindows (seq : Byte) (s : State) : Host.Outcome State Fault Refusal :=
  .next (s.takeFunction seq .getWindows State.getWindows)

/-- GET_METERS (R77). -/
def execGetMeters (seq : Byte) (s : State) : Host.Outcome State Fault Refusal :=
  .next (s.takeFunction seq .getMeters State.getMeters)

/-- GET_STREAMS (R128). -/
def execGetStreams (seq : Byte) (s : State) : Host.Outcome State Fault Refusal :=
  .next (s.takeFunction seq .getStreams State.getStreams)

/-- GET_ARCHIVE (R111). -/
def execGetArchive (seq : Byte) (s : State) : Host.Outcome State Fault Refusal :=
  .next (s.takeFunction seq .getArchive State.getArchive)

/-- GET_RESET_CAUSE (R160). -/
def execGetResetCause (seq : Byte) (s : State) : Host.Outcome State Fault Refusal :=
  .next (s.takeFunction seq .getResetCause State.getResetCause)

end Sys2Proof.Machine
end

