-- ==== Sys2Proof/Machine/PathRows.lean ====
section
/-! DEFINITION. The meanings of the rows that arrive on the pins and ports: the resets, upstream requests, grants of
the downstream port, completions and the stall timer. -/

namespace Sys2Proof.Machine

/-- POWER_ON_RESET (R145, R146 and the power-on column of every reset table). -/
def execPowerOnReset (baseSel : BitVec 8) (passOnly : Bool) (s : State) : Host.Outcome State Fault Refusal :=
  .next { State.powerOn baseSel passOnly with pending := s.pending }

/-- PATH_RESET (R147). -/
def execPathReset (s : State) : Host.Outcome State Fault Refusal := .next s.ready.pathReset

/-- The address of the line that holds byte `addr`. -/
def lineAddress (addr : BitVec 40) : Nat := addr.toNat / 64 * 64

/-- LINE_WRITE (R131, R132). -/
def execLineWrite (addr : BitVec 40) (data : BitVec 512) (mask : BitVec 64) (tag : BitVec 4) (s : State) :
    Host.Outcome State Fault Refusal :=
  .next (s.ready.setPath (s.ready.path.arrive (lineAddress addr) (some ⟨lineBytes data, mask⟩) tag))

/-- LINE_READ (R131, R132). -/
def execLineRead (addr : BitVec 40) (tag : BitVec 4) (s : State) : Host.Outcome State Fault Refusal :=
  .next (s.ready.setPath (s.ready.path.arrive (lineAddress addr) none tag))

/-- PASSING_REQUEST_TAKE (R134, R139): the head is taken if the grant of R139 goes to passing traffic. -/
def execPassingRequestTake (s : State) : Host.Outcome State Fault Refusal :=
  let s1 := s.ready
  match s1.path.forward with
  | r :: _ => if s1.straps.passOnly || s1.path.grant == .passing then .next (s1.takeHead r) else .next s1
  | [] => .next s1

/-- INSERTED_LINE_FORWARD (R138 to R140): the chosen line is issued if the grant of R139 goes to insertion. -/
def execInsertedLineForward (s : State) : Host.Outcome State Fault Refusal :=
  let s1 := s.ready
  match s1.path.grant with
  | .inserted p => .next (s1.forwardInserted p)
  | .passing => .next s1
  | .idle => .next s1

/-- WRITE_DONE (R133). -/
def execWriteDone (order : Nat) (s : State) : Host.Outcome State Fault Refusal :=
  .next (s.ready.complete order .writeDone)

/-- WRITE_REFUSED (R133, R142). -/
def execWriteRefused (order : Nat) (s : State) : Host.Outcome State Fault Refusal :=
  .next (s.ready.complete order .writeRefused)

/-- READ_DATA (R133). -/
def execReadData (order : Nat) (data : BitVec 512) (s : State) : Host.Outcome State Fault Refusal :=
  .next (s.ready.complete order (.readData data))

/-- READ_REFUSED (R133). -/
def execReadRefused (order : Nat) (s : State) : Host.Outcome State Fault Refusal :=
  .next (s.ready.complete order .readRefused)

/-- STALL_TIMER_EXPIRY (R10): it can come only in RUNNING, where the timer runs (R9). -/
def execStallTimerExpiry (s : State) : Host.Outcome State Fault Refusal :=
  if s.ready.sess.state = .running then .next s.ready.stall else .next s.ready

end Sys2Proof.Machine
end

