-- ==== Sys2Proof/Machine/Dispatch.lean ====
section
/-! DEFINITION. The one dispatch: a command's effect on everything but the queue of waiting commands. -/

namespace Sys2Proof.Machine

def exec (i : Instr) (s : State) : Host.Outcome State Fault Refusal :=
  match i with
  | .powerOnReset baseSel passOnly => Sys2Proof.Machine.execPowerOnReset baseSel passOnly s
  | .pathReset => Sys2Proof.Machine.execPathReset s
  | .lineWrite addr data mask tag => Sys2Proof.Machine.execLineWrite addr data mask tag s
  | .lineRead addr tag => Sys2Proof.Machine.execLineRead addr tag s
  | .passingRequestTake => Sys2Proof.Machine.execPassingRequestTake s
  | .insertedLineForward => Sys2Proof.Machine.execInsertedLineForward s
  | .writeDone order => Sys2Proof.Machine.execWriteDone order s
  | .writeRefused order => Sys2Proof.Machine.execWriteRefused order s
  | .readData order data => Sys2Proof.Machine.execReadData order data s
  | .readRefused order => Sys2Proof.Machine.execReadRefused order s
  | .stallTimerExpiry => Sys2Proof.Machine.execStallTimerExpiry s
  | .setSession seq blockSize lateness rate stall => Sys2Proof.Machine.execSetSession seq blockSize lateness rate stall s
  | .loadWindows seq part body => Sys2Proof.Machine.execLoadWindows seq part body s
  | .loadTracks seq part body => Sys2Proof.Machine.execLoadTracks seq part body s
  | .loadReleaseOrder seq tracks => Sys2Proof.Machine.execLoadReleaseOrder seq tracks s
  | .loadBus seq bus entries => Sys2Proof.Machine.execLoadBus seq bus entries s
  | .setBusLevel seq entries => Sys2Proof.Machine.execSetBusLevel seq entries s
  | .setBusMute seq selection setting => Sys2Proof.Machine.execSetBusMute seq selection setting s
  | .setStream seq body => Sys2Proof.Machine.execSetStream seq body s
  | .setArchive seq body => Sys2Proof.Machine.execSetArchive seq body s
  | .releaseSegment seq segment => Sys2Proof.Machine.execReleaseSegment seq segment s
  | .setReports seq body => Sys2Proof.Machine.execSetReports seq body s
  | .setInsertion seq body => Sys2Proof.Machine.execSetInsertion seq body s
  | .start seq => Sys2Proof.Machine.execStart seq s
  | .stop seq => Sys2Proof.Machine.execStop seq s
  | .pinSettings seq setting => Sys2Proof.Machine.execPinSettings seq setting s
  | .restart seq => Sys2Proof.Machine.execRestart seq s
  | .getFailReason seq => Sys2Proof.Machine.execGetFailReason seq s
  | .getSession seq => Sys2Proof.Machine.execGetSession seq s
  | .getTracks seq first count => Sys2Proof.Machine.execGetTracks seq first count s
  | .getWindows seq => Sys2Proof.Machine.execGetWindows seq s
  | .getMeters seq => Sys2Proof.Machine.execGetMeters seq s
  | .getStreams seq => Sys2Proof.Machine.execGetStreams seq s
  | .getArchive seq => Sys2Proof.Machine.execGetArchive seq s
  | .getResetCause seq => Sys2Proof.Machine.execGetResetCause seq s
  | .drainingEnd => Sys2Proof.Machine.execDrainingEnd s
  | .commandEnd => Sys2Proof.Machine.execCommandEnd s
  | .slotFilled => Sys2Proof.Machine.execSlotFilled s
  | .segmentSettled => Sys2Proof.Machine.execSegmentSettled s
  | .responseLineEnqueue => Sys2Proof.Machine.execResponseLineEnqueue s
  | .reportRecordWrite => Sys2Proof.Machine.execReportRecordWrite s
  | .streamLineEnqueue => Sys2Proof.Machine.execStreamLineEnqueue s
  | .archiveLineEnqueue => Sys2Proof.Machine.execArchiveLineEnqueue s

end Sys2Proof.Machine
end

