-- ==== Sys2Proof/Safety.lean ====
section
/-! DEFINITION. What a safe state of the part is, in the terms the statements use: the capacities the manual gives
its queues and stores, and the bounds it states for the values it keeps. A safe step leads from such a state to such
a state, and no step stops. -/

namespace Sys2Proof.Machine

/-- The queues of the memory path hold no more than the manual says (R131, R137, R139): at most 32 requests in the
forward queue, a full one wherever a request waits at the port, and each insertion queue within its capacity. -/
structure PathUnit.WithinCapacity (u : PathUnit) : Prop where
  forward : u.forward.length ≤ forwardQueueSize
  waiting : u.waiting = [] ∨ u.forward.length = forwardQueueSize
  response : u.queues.response.length ≤ Producer.capacity .response
  report : u.queues.report.length ≤ Producer.capacity .report
  stream : u.queues.stream.length ≤ Producer.capacity .stream
  mirror : u.queues.mirror.length ≤ Producer.capacity .mirror
  archive : u.queues.archive.length ≤ Producer.capacity .archive

/-- The record queue holds at most 32 records (R165). -/
def ReportWriter.WithinCapacity (w : ReportWriter) : Prop := w.queue.length ≤ recordQueueSize

/-- The staged data is at most 4096 bytes (R155). -/
def CommandUnit.WithinCapacity (u : CommandUnit) : Prop :=
  ∀ q, u.openSequence = some q → q.staged.length ≤ stagedLimit

/-- The tables have the sizes the manual gives them (R1, R18, R25, R57, R114, R144). -/
structure State.WithinTables (s : State) : Prop where
  windows : s.sess.windows.length = 16
  tracks : s.tracks.length = 128
  buses : s.buses.length = 8
  streams : s.sw.streams.length = 4
  losses : s.path.mirrorLoss.length = 16
  buffers : s.buffers.length ≤ poolSize

/-- The segment table has one entry for each data segment of the configured area, and at most one is OPEN (R99). -/
structure ArchiveWriter.InArea (w : ArchiveWriter) : Prop where
  table : w.segments.length = (w.area.map fun a => a.count - 1).getD 0
  oneOpen : (w.segments.countP fun x => x.state == .opened) ≤ 1

/-- A safe state. -/
structure State.Safe (s : State) : Prop where
  path : s.path.WithinCapacity
  archive : s.aw.InArea
  records : s.rw.WithinCapacity
  command : s.cmd.WithinCapacity
  tables : s.WithinTables

/-- The Command Unit's buffer has the 1024 bytes of the Command Slot (R149). -/
def CommandUnit.HasBuffer (u : CommandUnit) : Prop := u.buffer.length = 1024

/-- The Frame Table's order (R40, R41, R45): records are held only in RUNNING, in strictly increasing number, above
the newest closed number and not above the session reference, which lies less than the lateness allowance above the
newest closed number while a session lasts. -/
structure State.FrameOrder (s : State) : Prop where
  held : s.sess.state ≠ .running → s.ft.frames = []
  allowance : 1 ≤ s.sess.lateness ∧ s.sess.lateness ≤ 4
  order : s.ft.frames.Pairwise fun a b => a.number < b.number
  bounds : ∀ f ∈ s.ft.frames, s.ft.nextNumber ≤ f.number ∧ f.number ≤ s.ft.reference
  reach : s.sess.state ≠ .idle → s.ft.reference < s.ft.nextNumber + s.sess.lateness

end Sys2Proof.Machine
end

