-- ==== Sys2Proof/Certificates/Slice0/Obligations.lean ====
section
/-! DEFINITION. The statements for the provers. The helpers in `Sys2Proof.Spec` say in the manual's terms what the
statements compare the model with: what a take and an outcome do to the Command Unit (R151 to R153), what filing does
to the record queue (R165), when a grant goes where (R139, R140), and how a coded entry is read back (Section 5.10).
A next state is written as the old one with the fields that change, so every other field is said to be unchanged. -/

namespace Sys2Proof.Spec

open Sys2Proof.Machine

/-! ### Commands -/

/-- No event of a forwarding report is owed (assumption 5). -/
abbrev Settled (s : State) : Prop := s.report = none ∧ s.drainOver = false

/-- A submission with sequence `seq` is taken (R146, R150): the strap is off, the unit READY, the sequence new. -/
abbrev Takes (s : State) (seq : Byte) : Prop :=
  s.straps.passOnly = false ∧ s.cmd.working = none ∧ seq ≠ 0 ∧ seq ≠ s.cmd.lastTaken

/-- A single-part packet with sequence `seq` reaches its function's owner (R150, R155). -/
abbrev Reaches (s : State) (seq : Byte) : Prop := Settled s ∧ Takes s seq ∧ s.cmd.openSequence = none

/-- The outputs are quiet. -/
abbrev quiet (s : State) : State := { s with ports := ⟨none, none, false⟩ }

/-- The working header line (R151 step 3, R171). -/
def workingLine (seq : Byte) (field : BitVec 16) : List Byte :=
  [seq, 1] ++ leBytes 2 field.toNat ++ List.replicate 60 0

/-- R151, steps 1 to 3, at the take of a packet with function field `field`. -/
def takenWith (s : State) (seq : Byte) (field : BitVec 16) : State :=
  let u : CommandUnit :=
    { s.cmd with
      lastTaken := seq
      coverage := 0
      taken := satInc s.cmd.taken
      working := some ⟨seq, field, 0, .none, [], false, 0⟩ }
  if s.path.queues.response.length < 16 ∧ s.cmd.out = [] then
    { quiet s with
      cmd := u
      path :=
        { s.path with
          queues :=
            { s.path.queues with
              response := s.path.queues.response ++
                [⟨s.path.nextOrder, s.straps.baseSel.toNat * 16777216 + 1024, ⟨workingLine seq field, fullMask⟩,
                  .responseLine⟩] }
          nextOrder := s.path.nextOrder + 1 } }
  else { quiet s with cmd := { u with out := s.cmd.out ++ [.line 0 (workingLine seq field)] } }

/-- R151, steps 1 to 3, at the take of a packet of function `fn`. -/
def taken (s : State) (seq : Byte) (fn : Function) : State := takenWith s seq (BitVec.ofNat 16 fn.number)

/-- R153: an outcome with these flags, reason and body is settled and its final response appended. -/
def settled (s : State) (flags : BitVec 16) (reason : Reason) (body : List Byte) : State :=
  { s with
    cmd :=
      { s.cmd with
        working := s.cmd.working.map fun w =>
          { w with flags := w.flags ||| flags, reason := reason, body := body, finals := w.finals + 1 }
        out := s.cmd.out ++ bodyLines body ++ [.finalHeader] } }

/-- Success with a response body (R153). -/
def done (s : State) (body : List Byte) : State := settled s 0 .none body

/-- A refusal: REFUSED, the fail reason, the refused counter (R153, R157, R161). -/
def refused (s : State) (reason : Reason) : State :=
  settled { s with cmd := { s.cmd with refused := satInc s.cmd.refused, failReason := reason } } 0x0080 reason []

/-- A failed packet check: its flag and the check-failures counter (R152, R161). -/
def failed (s : State) (flag : BitVec 16) : State :=
  settled { s with cmd := { s.cmd with checkFailures := satInc s.cmd.checkFailures } } flag .none []

/-- R165: what filing a record does to the Report Writer. -/
def filed (w : ReportWriter) (r : Record) : ReportWriter :=
  match w.settings with
  | none => w
  | some c =>
    if c.records.getLsbD r.kind.classCode = false then w
    else if w.queue.length = 32 ∨ 32 < w.queue.length then { w with lost := satInc w.lost }
    else { w with queue := w.queue ++ [⟨r, c.pulses.getLsbD r.kind.classCode⟩] }

/-- R165: what filing records in turn does to the Report Writer. -/
def filedAll (w : ReportWriter) (rs : List Record) : ReportWriter := rs.foldl filed w

/-- The records of two takes that the manual does not order between themselves, in the one order or the other (the
model's choice, assumption 3). -/
def inEitherOrder (k : Nat) (first second : List Record) : List Record :=
  if first = [] ∨ second = [] ∨ Config.freeOrder k = true then first ++ second else second ++ first

/-- The sequence of a function row. -/
def sequenceOf : Instr → Option Byte
  | .setSession seq _ _ _ _ | .loadWindows seq _ _ | .loadTracks seq _ _ | .loadReleaseOrder seq _
  | .loadBus seq _ _ | .setBusLevel seq _ | .setBusMute seq _ _ | .setStream seq _ | .setArchive seq _
  | .releaseSegment seq _ | .setReports seq _ | .setInsertion seq _ | .start seq | .stop seq | .pinSettings seq _
  | .restart seq | .getFailReason seq | .getSession seq | .getTracks seq _ _ | .getWindows seq | .getMeters seq
  | .getStreams seq | .getArchive seq | .getResetCause seq => some seq
  | _ => none

/-- The function of a row that is always sent in one part. -/
def singleFunction : Instr → Option Function
  | .setSession _ _ _ _ _ => some .setSession
  | .loadReleaseOrder _ _ => some .loadReleaseOrder
  | .loadBus _ _ _ => some .loadBus
  | .setBusLevel _ _ => some .setBusLevel
  | .setBusMute _ _ _ => some .setBusMute
  | .setStream _ _ => some .setStream
  | .setArchive _ _ => some .setArchive
  | .releaseSegment _ _ => some .releaseSegment
  | .setReports _ _ => some .setReports
  | .setInsertion _ _ => some .setInsertion
  | .start _ => some .start
  | .stop _ => some .stop
  | .pinSettings _ _ => some .pinSettings
  | .restart _ => some .restart
  | .getFailReason _ => some .getFailReason
  | .getSession _ => some .getSession
  | .getTracks _ _ _ => some .getTracks
  | .getWindows _ => some .getWindows
  | .getMeters _ => some .getMeters
  | .getStreams _ => some .getStreams
  | .getArchive _ => some .getArchive
  | .getResetCause _ => some .getResetCause
  | _ => none

/-- The row of an ONLY packet: its function with the fields of its body (R172). -/
def rowOf (fn : Function) (seq : Byte) (body : List Byte) : Instr :=
  match fn with
  | .setSession => .setSession seq (BitVec.ofNat 16 (fieldAt body 0 2)) (byteAt body 2) (byteAt body 3)
      (BitVec.ofNat 32 (fieldAt body 4 4))
  | .loadWindows => .loadWindows seq .only body
  | .loadTracks => .loadTracks seq .only body
  | .loadReleaseOrder => .loadReleaseOrder seq (releaseTracks body)
  | .loadBus => .loadBus seq (byteAt body 0) (busEntries body)
  | .setBusLevel => .setBusLevel seq (levelEntries body)
  | .setBusMute => .setBusMute seq (byteAt body 0) (byteAt body 1)
  | .setStream => .setStream seq (streamBody body)
  | .setArchive => .setArchive seq (archiveBody body)
  | .releaseSegment => .releaseSegment seq (BitVec.ofNat 16 (fieldAt body 0 2))
  | .setReports => .setReports seq (reportsBody body)
  | .setInsertion => .setInsertion seq (insertionBody body)
  | .start => .start seq
  | .stop => .stop seq
  | .pinSettings => .pinSettings seq (byteAt body 0)
  | .restart => .restart seq
  | .getFailReason => .getFailReason seq
  | .getSession => .getSession seq
  | .getTracks => .getTracks seq (byteAt body 0) (byteAt body 1)
  | .getWindows => .getWindows seq
  | .getMeters => .getMeters seq
  | .getStreams => .getStreams seq
  | .getArchive => .getArchive seq
  | .getResetCause => .getResetCause seq

/-- The row that takes a waiting forwarding report. -/
def rowOfReport : Report → Instr
  | .commandEnd => .commandEnd
  | .slotFilled _ _ _ => .slotFilled
  | .segmentSettled _ => .segmentSettled

/-- The rows that act only where they are owed, and the power-on reset, which discards what is owed. -/
def actsAlone : Instr → Bool
  | .powerOnReset _ _ | .drainingEnd | .commandEnd | .slotFilled | .segmentSettled => true
  | _ => false

/-! ### Bodies of the two tables (R172) -/

/-- Every field of a LoadWindows entry fits its width. -/
abbrev windowEntryFits (e : WindowEntry) : Prop :=
  e.window < 256 ∧ e.lanes < 256 ∧ e.slots < 256 ∧ e.format < 256 ∧ e.liveLimit < 256 ∧ e.base < 2 ^ 64
    ∧ e.mirrorBase < 2 ^ 64

/-- A LoadWindows body. -/
def windowsBytes (es : List WindowEntry) : List Byte :=
  leBytes 4 es.length ++ es.flatMap fun e =>
    leBytes 1 e.window ++ leBytes 1 e.lanes ++ leBytes 1 e.slots ++ leBytes 1 e.format
      ++ leBytes 1 (if e.mirrorFlag then 1 else 0) ++ leBytes 1 e.liveLimit ++ leBytes 2 0 ++ leBytes 8 e.base
      ++ leBytes 8 e.mirrorBase

/-- Check 4 of R6 for one entry. -/
abbrev windowEntryValid (e : WindowEntry) : Prop :=
  e.window ≤ 15 ∧ 1 ≤ e.lanes ∧ e.lanes ≤ 32 ∧ e.slots % 2 = 0 ∧ 4 ≤ e.slots ∧ e.slots ≤ 64 ∧ e.format ≤ 1
    ∧ e.base % 4096 = 0 ∧ e.base + e.slots * e.lanes * 1024 ≤ 2 ^ 40
    ∧ (e.mirrorFlag = true → e.mirrorBase % 4096 = 0 ∧ e.mirrorBase + e.slots * e.lanes * 1024 ≤ 2 ^ 40)

/-- The record of a LoadWindows entry (R1, R6). -/
def windowRecordOf (e : WindowEntry) : WindowRecord :=
  ⟨e.base, e.lanes, e.slots, if e.format = 0 then .left else .right,
    if e.mirrorFlag then some e.mirrorBase else none, max 1 e.liveLimit⟩

/-- Every field of a LoadTracks entry fits its byte. -/
abbrev trackEntryFits (e : TrackEntry) : Prop :=
  e.track < 256 ∧ e.enabled < 256 ∧ e.primary.window < 256 ∧ e.primary.lane < 256 ∧ e.alternateFlag < 256
    ∧ e.alternate.window < 256 ∧ e.alternate.lane < 256 ∧ e.compare < 256 ∧ e.lossLimit < 256

/-- A LoadTracks body. -/
def tracksBytes (es : List TrackEntry) : List Byte :=
  leBytes 4 es.length ++ es.flatMap fun e =>
    leBytes 1 e.track ++ leBytes 1 e.enabled ++ leBytes 1 e.primary.window ++ leBytes 1 e.primary.lane
      ++ leBytes 1 e.alternateFlag ++ leBytes 1 e.alternate.window ++ leBytes 1 e.alternate.lane
      ++ leBytes 1 e.compare ++ leBytes 1 e.lossLimit ++ leBytes 3 0

/-- A lane of a loaded window. -/
abbrev laneLoaded (s : State) (p : Source) : Prop := ∃ r ∈ (s.sess.window p.window).record, p.lane < r.lanes

/-- Check 3 of R27 for one entry. -/
abbrev trackEntryValid (s : State) (e : TrackEntry) : Prop :=
  e.track ≤ 127 ∧ e.enabled ≤ 1 ∧ e.alternateFlag ≤ 1 ∧ e.compare ≤ 1
    ∧ (e.enabled = 1 → laneLoaded s e.primary ∧ (e.alternateFlag = 1 → laneLoaded s e.alternate))

/-- The sources of the enabled entries (R27, check 5). -/
def sourcesOf (es : List TrackEntry) : List Source :=
  es.flatMap fun e =>
    if e.enabled = 1 then (if e.alternateFlag = 1 then [e.primary, e.alternate] else [e.primary]) else []

/-- The record of a LoadTracks entry (R25, R27). -/
def trackRecordOf (e : TrackEntry) : TrackRecord :=
  ⟨decide (e.enabled = 1), some e.primary, if e.alternateFlag = 1 then some e.alternate else none,
    decide (e.compare = 1), max 1 e.lossLimit⟩

/-! ### The memory path -/

/-- Two regions share a byte. -/
abbrev Overlap (a b : Region) : Prop := a.base < b.base + b.length ∧ b.base < a.base + a.length

/-- R132: a request to line `addr` with entry order `order` is eligible: none to that line with an earlier entry order
waits in the forward queue, at the port (assumption 6) or in an insertion queue. -/
abbrev Eligible (u : PathUnit) (addr order : Nat) : Prop :=
  (∀ r ∈ u.forward ++ u.waiting, r.addr = addr → order ≤ r.order)
    ∧ ∀ p, ∀ l ∈ u.queues.get p, l.addr = addr → order ≤ l.order

/-- The next grant goes to passing traffic (R139; by the present P, assumption 34). -/
abbrev GrantsPassing (u : PathUnit) : Prop :=
  u.headEligible = true ∧ (u.share < u.shareLimit ∨ ∀ p ∈ Producer.all, u.isReady p = false)

/-- Where producer `p` stands in the order of R140. -/
def rank : Producer → Nat
  | .response => 0
  | .report => 1
  | .stream => 2
  | .mirror => 3
  | .archive => 4

/-- The next grant goes to the head line of queue `p` (R139, R140; by the present P, assumption 34). -/
abbrev GrantsInserted (u : PathUnit) (p : Producer) : Prop :=
  u.isReady p = true ∧ (u.headEligible = false ∨ u.shareLimit ≤ u.share)
    ∧ ∀ q ∈ Producer.all, u.isReady q = true →
        u.levels.get q < u.levels.get p ∨ (u.levels.get q = u.levels.get p ∧ rank p ≤ rank q)

/-- The path once the head request of the forward queue has left it (R131). -/
def headLeft (u : PathUnit) : PathUnit :=
  { u with
    forward := u.forward.tail ++ u.waiting.take (32 - u.forward.tail.length)
    waiting := u.waiting.drop (32 - u.forward.tail.length) }

/-- The part once the head request `r` has been forwarded and no owner has acted (R131, R133, R139). -/
def forwarded (s : State) (r : Passing) : State :=
  { s with
    ports := ⟨some ⟨r.addr, r.write, r.tag⟩, none, false⟩
    path :=
      { headLeft s.path with
        outstanding := s.path.outstanding ++ [⟨r.order, .passing r.tag, r.write.isSome, r.addr⟩]
        share := if s.straps.passOnly ∨ s.path.shareLimit ≤ s.path.share then s.path.share else s.path.share + 1 } }

/-- The Command Slot holds the line (R145). -/
abbrev InCommandSlot (s : State) (addr : Nat) : Prop :=
  s.straps.baseSel.toNat * 16777216 ≤ addr ∧ addr < s.straps.baseSel.toNat * 16777216 + 1024

/-- The Response Slot holds the line (R145). -/
abbrev InResponseSlot (s : State) (addr : Nat) : Prop :=
  s.straps.baseSel.toNat * 16777216 + 1024 ≤ addr ∧ addr < s.straps.baseSel.toNat * 16777216 + 2048

/-- Segment `n` of the configured area is in the guard set and holds the line (R96, R100). -/
abbrev InGuardedSegment (s : State) (addr n : Nat) : Prop :=
  ∃ a ∈ s.aw.area, a.base + n * (a.sizeMiB * 1048576) ≤ addr ∧ addr < a.base + (n + 1) * (a.sizeMiB * 1048576)
    ∧ n < a.count ∧ (n = 0 ∨ ∃ x ∈ s.aw.segments[n - 1]?, x.state ≠ .free)

/-- A line joins the tail of its producer's queue with the next entry order (R137). -/
def enqueued (u : PathUnit) (p : Producer) (addr : Nat) (write : WriteData) (note : Note) : PathUnit :=
  { u with
    queues := u.queues.set p (u.queues.get p ++ [⟨u.nextOrder, addr, write, note⟩])
    nextOrder := u.nextOrder + 1 }

/-- A track names the lane as a source (R26). -/
abbrev Names (x : Track) (p : Source) : Prop :=
  x.record.enabled = true ∧ (x.record.primary = some p ∨ x.record.alternate = some p)

/-- The next grant takes the write `d`, with at least one byte enabled, of line `line` of the block of lane `lane` in
slot `slot` of window `w`, and no other region holds the line (R2, R134). -/
structure TakesWindowWrite (s : State) (r : Passing) (d : WriteData) (w : Nat) (rec : WindowRecord)
    (slot lane line : Nat) : Prop where
  settled : Settled s
  active : s.straps.passOnly = false
  head : s.path.forward.head? = some r
  granted : GrantsPassing s.path
  write : r.write = some d
  enabled : d.mask ≠ 0
  unguarded : s.aw.guards r.addr = none
  apart : ¬ InCommandSlot s r.addr ∧ ¬ InResponseSlot s r.addr
  alone : s.sess.windowsAt r.addr = [w]
  record : (s.sess.window w).record = some rec
  block : s.sess.blockSize % 64 = 0
  place : r.addr = rec.base + (slot * rec.lanes + lane) * (4 * s.sess.blockSize) + 64 * line
  within : slot < rec.slots ∧ lane < rec.lanes ∧ line < s.sess.blockSize / 16

/-- The full stall time (R9). -/
def fullStall (s : State) : Nat := (s.sess.record.map SessionRecord.stall).getD 0

/-- No stream frame waits, is queued or fills a slot; no archive frame waits or is queued; no segment is OPEN and no
closing record is awaited (R13). -/
abbrev Drained (s : State) : Prop :=
  s.sw.out = [] ∧ s.path.queues.stream = [] ∧ (∀ x ∈ s.sw.streams, ∀ q ∈ x.slots, q.state ≠ .filling)
    ∧ (∀ o ∈ s.aw.out, ∀ i, o ≠ .frame i)
    ∧ (∀ l ∈ s.path.queues.archive, l.note ≠ .frameLine ∧ ∀ n g c u, l.note ≠ .frameEnd n g c u)
    ∧ (∀ x ∈ s.aw.segments, x.state ≠ .opened) ∧ s.aw.closing = none

/-- R40: the number after the newest closed one. -/
def nextNumber (s : State) : Nat :=
  match s.ft.newest with
  | none => 0
  | some g => g + 1

/-- R46, R47: the frame of the oldest unclosed number is held, and it is complete. -/
abbrev Due (s : State) (f : Frame) : Prop := s.ft.find (nextNumber s) = some f ∧ f.wins.length = s.ft.enabled

/-- R62: the snapshot of one bus: its Applied inputs, then those of its Target list that Applied has not. -/
def snapshotOf (b : Bus) : BusSnapshot :=
  let coefficient := fun (inputs : List BusInput) (t : Nat) =>
    (inputs.find? fun i => i.track == t).map BusInput.coefficient
  let gain := fun (on : Bool) => if on then (0 : Int) else 16384
  ⟨b.applied.map (fun i => ⟨i.track, i.coefficient, (coefficient b.target i.track).getD 0⟩)
      ++ (b.target.filter fun i => coefficient b.applied i.track == none).map fun i => ⟨i.track, 0, i.coefficient⟩,
    gain b.muteApplied, gain b.muteTarget⟩

/-- R3: the samples of a block of `n` containers of four bytes. -/
def samplesIn (format : Format) (n : Nat) (bytes : List Byte) : List Int :=
  (List.range n).map fun i =>
    (BitVec.ofNat 24 (fieldAt bytes (4 * i + if format = .left then 1 else 0) 3)).toInt

/-- The notes of the directory lines that are not yet forwarded, in the output list and in the Archive queue (R101). -/
def waitingNotes (w : ArchiveWriter) (queue : List Inserted) : List Note :=
  w.out.filterMap (fun o => match o with
    | .directory _ _ note => some note
    | .frame _ => none) ++ queue.map Inserted.note

/-- The directory pending flag of segment `n` (R101). -/
def recordWaits (w : ArchiveWriter) (queue : List Inserted) (n : Nat) : Bool :=
  (waitingNotes w queue).any fun note => match note with
    | .directoryRecord m _ => m == n
    | _ => false

/-- R110: what a path reset or a pinned Restart leaves of the Archive Writer, whose lines in the Archive queue were
`queue`. `always` stands for the Restart, which rewrites the header whether or not it is pending. -/
def resetArchive (w : ArchiveWriter) (queue : List Inserted) (always : Bool) : ArchiveWriter :=
  let opened := (List.range w.segments.length).filter fun i => w.segments[i]?.any fun x => x.state == .opened
  let rewritten := opened ++
    (List.range w.segments.length).filter fun i => !opened.contains i && recordWaits w queue (i + 1)
  let kept := fun (x : Segment) =>
    if x.state = .opened then
      { x with
        state := .closed, settled := false, cause := .reset, last := x.forwardedLast, count := x.forwardedCount
        used := x.forwardedUsed }
    else x
  let serial := fun (j : Nat) => min (w.updateSerial + j) 4294967295
  { w with
    segments := w.segments.zipIdx.map fun (x, i) =>
      match rewritten.idxOf? i with
      | some j => { kept x with updateSerial := serial (j + 1) }
      | none => kept x
    updateSerial := serial rewritten.length
    out := w.area.toList.flatMap fun a =>
      (if always || (waitingNotes w queue).contains .directoryHeader then
          [.directory a.base (directoryHeader a) .directoryHeader]
        else []) ++ rewritten.zipIdx.flatMap fun (i, j) => w.segments[i]?.toList.map fun x =>
          .directory (a.base + 64 * (i + 1)) (directoryRecord (i + 1) (kept x) (serial (j + 1)))
            (.directoryRecord (i + 1) (kept x).state)
    staging := []
    archiving := false
    full := false
    closing := none
    counters := { w.counters with closed := if opened = [] then w.counters.closed else satInc w.counters.closed } }

/-- R118 to R121: what is done with a stream frame, by the slot at the write position. -/
def slotRule (x : Stream) (b : StreamBody) : SlotCase :=
  match (x.slots.getD x.writePosition ⟨.free, [], false⟩).state with
  | .free => .fill
  | .filling => .late
  | .filled => if b.policy = 1 then .overwrite else .drop

/-- The record of an enabled stream. -/
def enabledRecord (x : Stream) : Option StreamBody := x.record.filter fun b => b.enabled == 1

/-! ### Response bodies and directory lines (R173, R175) -/

/-- A flag of one byte. -/
def flag (b : Bool) : List Byte := [if b then 1 else 0]

/-- Counters of four bytes each. -/
def counters (values : List Nat) : List Byte := values.flatMap (leBytes 4)

/-- A value of `n` bytes, all ones where there is none (assumption 8). -/
def orNone (n : Nat) (value : Option Nat) : List Byte := (value.map (leBytes n)).getD (List.replicate n 0xFF)

/-- `n` response bytes the manual does not state (assumption 8), of the packet taken as number `take`. -/
def unstated (take first n : Nat) : List Byte := (List.range n).map fun j => Config.freeByte take (first + j)

/-- A window and lane, all ones where there is none (assumption 8). -/
def sourceField (value : Option Source) : List Byte :=
  (value.map fun p => leBytes 1 p.window ++ leBytes 1 p.lane).getD [0xFF, 0xFF]

/-- R161: the GetSession body. -/
def sessionReport (s : State) : List Byte :=
  leBytes 1 (match s.sess.state with
    | .idle => 0
    | .armed => 1
    | .running => 2
    | .stalled => 3
    | .draining => 4)
  ++ (match s.sess.record with
    | some r => [1] ++ leBytes 2 r.blockSize ++ leBytes 1 r.lateness ++ leBytes 1 (if r.rate = .r48k then 1 else 2)
        ++ leBytes 4 r.stall
    | none => [0] ++ unstated s.cmd.taken 0 8)
  ++ leBytes 4 s.sess.serial ++ orNone 4 s.sess.resume ++ orNone 4 s.ft.newest ++ leBytes 4 s.ft.reference
  ++ leBytes 1 s.ft.frames.length ++ orNone 4 s.ft.discontinuity
  ++ counters [s.ft.counters.opened, s.ft.counters.closed, s.ft.counters.empty, s.ft.counters.complete,
      s.ft.counters.lateness, s.ft.counters.stall, s.ft.counters.stop]
  ++ counters [s.path.archiveRefusals, s.path.responseRefusals]
  ++ counters [s.path.pathErrors.response, s.path.pathErrors.report, s.path.pathErrors.stream, s.path.pathErrors.mirror,
      s.path.pathErrors.archive]
  ++ counters s.path.mirrorLoss ++ leBytes 4 s.rw.lost ++ flag s.cmd.pin ++ [s.cmd.lastTaken]
  ++ (match s.cmd.openSequence with
    | some q => leBytes 1 q.function.number ++ leBytes 4 q.parts ++ leBytes 4 q.staged.length
    | none => List.replicate 9 0xFF)
  ++ counters [s.cmd.taken, s.cmd.checkFailures, s.cmd.refused, s.cmd.overruns, s.cmd.abandoned] ++ [s.straps.baseSel]

/-- R38: the GetTracks entry of track `t`, in the packet taken as number `take`. -/
def trackReport (x : Track) (take t : Nat) : List Byte :=
  leBytes 1 t
  ++ (leBytes 1 t ++ flag x.record.enabled ++ sourceField x.record.primary
    ++ (match x.record.alternate with
      | some p => flag true ++ sourceField (some p)
      | none => flag false ++ unstated take (2 * t) 2)
    ++ flag x.record.compare ++ leBytes 1 x.record.lossLimit ++ leBytes 3 0)
  ++ leBytes 1 (match x.status with
    | .idle => 0
    | .waiting => 1
    | .active => 2
    | .lost => 3)
  ++ leBytes 1 x.run
  ++ leBytes 1 (match x.last with
    | none => 0
    | some .primary => 1
    | some .alternate => 2)
  ++ counters [x.absentFrames, x.alternateWins, x.compared, x.disagreements]

/-- R23: the GetWindows entry of window `w`, in the packet taken as number `take`. -/
def windowReport (x : Window) (take w : Nat) : List Byte :=
  match x.record with
  | none => List.replicate 61 0
  | some r =>
    [1]
    ++ (leBytes 1 w ++ leBytes 1 r.lanes ++ leBytes 1 r.slots ++ [if r.format = .left then 0 else 1]
      ++ flag r.mirror.isSome ++ leBytes 1 r.liveLimit ++ [0, 0] ++ leBytes 8 r.base
      ++ (match r.mirror with
        | some base => leBytes 8 base
        | none => unstated take (8 * w) 8))
    ++ [if x.liveness = .live then 0 else 1] ++ flag x.changed ++ flag x.anchored ++ leBytes 1 x.anchor
    ++ orNone 4 x.reference
    ++ counters [x.counts.completed, x.counts.stray, x.counts.late, x.counts.rewrite, x.counts.incomplete,
        x.counts.exhausted, x.counts.ignored]

/-- R77: the GetMeters entry of a bus. -/
def busReport (b : Bus) : List Byte :=
  counters [b.peak, b.overCount, b.overFrames] ++ flag b.muteTarget ++ flag b.muteApplied ++ leBytes 1 b.target.length
    ++ leBytes 1 b.applied.length

/-- R128: the GetStreams entry of a stream. -/
def streamReport (record : Option SessionRecord) (x : Stream) : List Byte :=
  match x.record with
  | none => List.replicate 72 0
  | some b =>
    [1]
    ++ ([b.stream, b.enabled, b.busCount, b.width, b.dither, b.policy, b.slotCount, 0] ++ leBytes 8 b.buses.toNat
      ++ leBytes 8 b.base.toNat ++ leBytes 2 b.watermark.toNat ++ leBytes 2 b.staleLimit.toNat ++ [0, 0, 0, 0])
    ++ if b.enabled = 1 then
        let flawed := (x.slots.filter fun q => q.state == .filled && q.concealed).length
        leBytes 4 ((record.map fun r => 64 + r.blockSize * b.busCount.toNat * (if b.width = 0 then 2 else 4)).getD 0)
        ++ leBytes 1 x.writePosition ++ leBytes 1 (x.slots.filter fun q => q.state == .filled).length
        ++ orNone 1 (x.slots.findIdx? fun q => q.state == .filling) ++ flag (decide (flawed ≠ 0)) ++ leBytes 1 flawed
        ++ flag x.watermarkArmed ++ flag x.staleArmed ++ leBytes 4 x.staleCount
        ++ counters [x.filled, x.freed, x.dropped, x.overwritten, x.late, x.unmarked]
        ++ x.slots.map fun q => match q.state with
          | .free => 0
          | .filling => 1
          | .filled => 2
      else List.replicate 39 0

/-- R111: the GetArchive body. -/
def archiveReport (s : State) : List Byte :=
  let opened := s.aw.segments.findIdx? fun x => x.state == .opened
  (match s.aw.area with
    | some a => [1] ++ leBytes 8 a.base ++ leBytes 1 a.sizeMiB ++ [0] ++ leBytes 2 a.count ++ leBytes 2 a.low
        ++ leBytes 2 a.high
    | none => List.replicate 17 0)
  ++ flag s.aw.archiving ++ flag s.aw.full ++ flag s.aw.warning ++ flag s.aw.pendingDiscontinuity
  ++ leBytes 2 (s.aw.segments.filter fun x => x.state == .free).length ++ orNone 2 (opened.map (· + 1))
  ++ (match opened.bind fun i => s.aw.segments[i]? with
    | some x => leBytes 4 x.used ++ leBytes 4 x.count ++ leBytes 4 x.forwardedCount
    | none => List.replicate 4 0xFF ++ unstated s.cmd.taken 0 8)
  ++ leBytes 1 s.aw.releaseOrder.length
  ++ leBytes 4 (393216 - (s.aw.staging.map fun e => e.bytes.length).sum)
  ++ counters [s.aw.counters.coded, s.aw.counters.verbatim, s.aw.counters.escapes, s.aw.counters.stagingDrops,
      s.aw.counters.stagingPeak, s.aw.counters.placed, s.aw.counters.bytesPlaced, s.aw.counters.fullDrops,
      s.aw.counters.opened, s.aw.counters.closed]
  ++ s.aw.segments.zipIdx.flatMap fun (x, i) =>
    leBytes 1 ((match x.state with
      | .free => 0
      | .opened => 1
      | .closed => 2) + (if x.settled then 4 else 0)
      + if recordWaits s.aw s.path.queues.archive (i + 1) = true then 8 else 0)

/-- R101, R175: the directory header line. -/
def directoryHeaderLine (a : Area) : List Byte :=
  [0x5A, 0x4B, 0x44, 0x48] ++ leBytes 1 a.sizeMiB ++ [0] ++ leBytes 2 a.count ++ leBytes 2 a.low ++ leBytes 2 a.high
    ++ leBytes 4 0 ++ leBytes 8 a.base ++ List.replicate 40 0

/-- R101, R175: the directory record line of segment `n`. -/
def directoryRecordLine (n : Nat) (x : Segment) (serial : Nat) : List Byte :=
  leBytes 2 n
  ++ (match x.state with
    | .free => [0, 0] ++ List.replicate 20 0
    | .opened => [1, 0] ++ leBytes 4 x.serial ++ leBytes 4 x.first ++ List.replicate 12 0
    | .closed =>
      leBytes 1 2 ++ leBytes 1 (match x.cause with
        | .none => 0
        | .rolled => 1
        | .stopped => 2
        | .reset => 3)
      ++ leBytes 4 x.serial ++ leBytes 4 x.first ++ leBytes 4 x.last ++ leBytes 4 x.count ++ leBytes 4 x.used)
  ++ leBytes 4 serial ++ List.replicate 36 0

/-! ### Reading a coded entry back (Section 5.10) -/

/-- The bits of a payload, words in order, each from its most significant bit. -/
def payloadBits (payload : List Byte) : List Bool :=
  (List.range (payload.length / 4)).flatMap fun j => natBits 32 (fieldAt payload (4 * j) 4)

/-- A two's-complement field of 24 bits. -/
def signed24 (v : Nat) : Int := (BitVec.ofNat 24 v).toInt

/-- One code: its value and the bits after it. -/
def readCode (k : Nat) (bits : List Bool) : Nat × List Bool :=
  let q := (bits.takeWhile id).length
  if 32 ≤ q then (bitsValue ((bits.drop 32).take 27), bits.drop 59)
  else (q * 2 ^ k + bitsValue ((bits.drop (q + 1)).take k), bits.drop (q + 1 + k))

/-- The residual of a mapped value. -/
def unmapped (u : Nat) : Int := if u % 2 = 0 then (u / 2 : Nat) else -(((u + 1) / 2 : Nat) : Int)

/-- `count` more samples, the samples before them given newest first. -/
def readSamples (p k : Nat) : Nat → List Int → List Bool → List Int
  | 0, _, _ => []
  | count + 1, before, bits =>
    let x := unmapped (readCode k bits).1 + predict p before
    x :: readSamples p k count (x :: before) (readCode k bits).2

/-- The samples of a CODED payload of a block of `n` samples. -/
def readCoded (p k n : Nat) (payload : List Byte) : List Int :=
  let bits := payloadBits payload
  let warm := (List.range p).map fun i => signed24 (bitsValue ((bits.drop (24 * i)).take 24))
  warm ++ readSamples p k (n - p) warm.reverse (bits.drop (24 * p))

/-- The samples of a VERBATIM payload of a block of `n` samples. -/
def readVerbatim (n : Nat) (payload : List Byte) : List Int :=
  (List.range n).map fun i => signed24 (fieldAt payload (3 * i) 3)

/-- Every value is a sample. -/
abbrev AreSamples (xs : List Int) : Prop := ∀ x ∈ xs, -8388608 ≤ x ∧ x ≤ 8388607

end Sys2Proof.Spec

open Sys2Proof Sys2Proof.Machine Sys2Proof.Spec

/-! ### The machine -/

/-- A step runs the command at the front of the queue on the queue's rest. -/
def Obligations.StepRunsTheFrontCommand : Prop :=
  ∀ (s : State) (c : Instr) (rest : List Instr), s.pending = c :: rest → step s = exec c { s with pending := rest }

/-- The model's idle step (assumption 2): one microsecond of the stall timer in RUNNING, whose last microsecond is the
expiry of R10, and nothing in any other session state. -/
def Obligations.IdleStepCountsOneMicrosecond : Prop :=
  ∀ s : State, s.pending = [] → Settled s →
    (∀ k, s.sess.state = .running → s.sess.timer = some k → 1 < k →
      step s = .next { quiet s with sess := { s.sess with timer := some (k - 1) } })
    ∧ (∀ k, s.sess.state = .running → s.sess.timer = some k → k ≤ 1 → step s = exec .stallTimerExpiry s)
    ∧ (s.sess.state ≠ .running ∨ s.sess.timer = none → step s = .next (quiet s))

/-- No command stops the part, and so no step does. -/
def Obligations.EveryCommandAnswersANextState : Prop :=
  ∀ (c : Instr) (s : State), (∃ t, exec c s = .next t) ∧ ∃ t, step s = .next t

/-- A command finds every owed event taken: running the row of a waiting report, or DRAINING_END where DRAINING is
over, before a command changes nothing (the model's choice, assumption 5). -/
def Obligations.OwedEventsAreTakenFirst : Prop :=
  ∀ (c : Instr) (s t : State), actsAlone c = false →
    ((∃ r, s.report = some r ∧ exec (rowOfReport r) s = .next t)
      ∨ (s.report = none ∧ s.drainOver = true ∧ exec .drainingEnd s = .next t)) →
    exec c s = exec c t

/-! ### Command packets (Section 9) -/

/-- R146, R150: with pass-only asserted, or with sequence 0 or the last taken one, nothing is submitted. -/
def Obligations.UnsubmittedPacketChangesNothing : Prop :=
  ∀ (c : Instr) (s : State) (seq : Byte), sequenceOf c = some seq → Settled s →
    (s.straps.passOnly = true ∨ seq = 0 ∨ seq = s.cmd.lastTaken) → exec c s = .next (quiet s)

/-- R154: a submission while WORKING counts an overrun, sets OVERRUN once, and appends a second final header line
where one has entered the Response queue. -/
def Obligations.SubmissionWhileWorkingIsAnOverrun : Prop :=
  ∀ (c : Instr) (s : State) (seq : Byte) (w : Working), sequenceOf c = some seq → Settled s →
    s.straps.passOnly = false → s.cmd.working = some w → seq ≠ 0 → seq ≠ s.cmd.lastTaken →
    exec c s = .next
      { quiet s with
        cmd :=
          { s.cmd with
            overruns := satInc s.cmd.overruns
            working := some
              { w with
                flags := w.flags ||| 0x0100
                finals := if w.flags.getLsbD 8 = false ∧ w.finalEnqueued = true then w.finals + 1 else w.finals }
            out := if w.flags.getLsbD 8 = false ∧ w.finalEnqueued = true then s.cmd.out ++ [.finalHeader]
              else s.cmd.out } }

/-- R155: a single-part packet taken while a sequence is open fails with BROKEN_SEQUENCE, is not executed, and the
sequence is discarded. -/
def Obligations.SinglePartPacketBreaksAnOpenSequence : Prop :=
  ∀ (c : Instr) (s : State) (seq : Byte) (fn : Function) (q : OpenSequence), sequenceOf c = some seq →
    singleFunction c = some fn → Settled s → Takes s seq → s.cmd.openSequence = some q →
    exec c s = .next (failed { taken s seq fn with cmd := { (taken s seq fn).cmd with openSequence := none } } 0x0040)

/-- R152, R155: the parts of the two tables that are not executed: FIRST and MIDDLE parts are staged; a part that does
not fit the open sequence fails with the flag of the table of R155; an ONLY part of another length than its count gives
fails with LENGTH, and so does staged data above 4096 bytes; a body above 1008 bytes fails with SHORT_BODY (that the row
can carry one is the model's choice, assumption 10). -/
def Obligations.TablePartsAreStagedInOrder : Prop :=
  ∀ (s : State) (seq : Byte) (body : List Byte) (fn other : Function) (parts : Nat) (staged : List Byte)
    (row : Part → Instr),
    ((fn = .loadWindows ∧ row = fun p => .loadWindows seq p body)
      ∨ (fn = .loadTracks ∧ row = fun p => .loadTracks seq p body)) →
    Settled s → Takes s seq →
    let u := taken s seq fn
    let size := if fn = .loadWindows then 24 else 12
    let opened := fun (x : State) (q : Option OpenSequence) => ({ x with cmd := { x.cmd with openSequence := q } } : State)
    (1008 < body.length → ∀ p, exec (row p) s = .next (failed u 0x0010))
    ∧ (body.length ≤ 1008 → s.cmd.openSequence = none →
      (body = [] ∨ body.length ≠ 4 + size * (body.getD 0 0).toNat → exec (row .only) s = .next (failed u 0x0020))
      ∧ exec (row .first) s = .next (done (opened u (some ⟨fn, 1, body⟩)) [])
      ∧ exec (row .middle) s = .next (failed u 0x0004) ∧ exec (row .last) s = .next (failed u 0x0004))
    ∧ (body.length ≤ 1008 → s.cmd.openSequence = some ⟨other, parts, staged⟩ →
      exec (row .only) s = .next (failed (opened u none) 0x0040)
      ∧ exec (row .first) s = .next (failed (opened u none) 0x0040)
      ∧ (other ≠ fn →
        exec (row .middle) s = .next (failed u 0x0004) ∧ exec (row .last) s = .next (failed u 0x0004))
      ∧ (other = fn →
        exec (row .middle) s = .next
          (if staged.length + body.length ≤ 4096 then done (opened u (some ⟨fn, satInc parts, staged ++ body⟩)) []
            else failed (opened u none) 0x0020)))

/-- R156: a LAST part of the function whose sequence is open runs the assembled table as an ONLY packet would, and
leaves no sequence open; above 4096 bytes, or with a length its count does not give, it fails with LENGTH. -/
def Obligations.LastPartRunsTheAssembledTable : Prop :=
  ∀ (s : State) (seq : Byte) (body : List Byte) (fn : Function) (parts : Nat) (staged : List Byte)
    (row : Part → List Byte → Instr),
    ((fn = .loadWindows ∧ row = fun p b => .loadWindows seq p b)
      ∨ (fn = .loadTracks ∧ row = fun p b => .loadTracks seq p b)) →
    Settled s → Takes s seq → body.length ≤ 1008 → s.cmd.openSequence = some ⟨fn, parts, staged⟩ →
    let table := staged ++ body
    let size := if fn = .loadWindows then 24 else 12
    let closed : State := { s with cmd := { s.cmd with openSequence := none } }
    if table.length ≤ 4096 ∧ table ≠ [] ∧ table.length = 4 + size * (table.getD 0 0).toNat then
      (table.length ≤ 1008 → exec (row .last body) s = exec (row .only table) closed)
      ∧ exec (row .last body) s =
        .next (((runFunction fn table (taken closed seq fn)).1).answer (runFunction fn table (taken closed seq fn)).2)
    else exec (row .last body) s = .next (failed (taken closed seq fn) 0x0020)

/-- R149 to R155, R172: a passing write that enables byte 0 of line 0 of the Command Slot. A packet that passes checks
1 to 6 does to the part what the row of its function does with the fields of its body; one that fails one of them ends
with its flag, whatever sequence is open; an ONLY part of another length than its function gives ends with LENGTH; and
a packet that is not taken does what any row with its sequence does. -/
def Obligations.PacketBytesRunTheRowTheyName : Prop :=
  ∀ (s : State) (d : WriteData), d.mask.getLsbD 0 = true →
    let u : State := { s with cmd := s.cmd.copy 0 d }
    let seq := byteAt u.cmd.buffer 0
    let write := s.commandWrite runFunction 0 d
    let does := fun (c : Instr) => ∀ t, exec c u = .next t → write = { t with ports := s.ports }
    let fails := fun (field flag : BitVec 16) =>
      write = { failed (takenWith u seq field) flag with ports := s.ports }
    (∀ r rest, Settled s → s.straps.passOnly = false → s.path.forward = r :: rest → GrantsPassing s.path →
      r.write = some d → r.addr = s.straps.baseSel.toNat * 16777216 → s.sess.windowsAt r.addr = [] →
      s.aw.guards r.addr = none →
      exec .passingRequestTake s = .next ((forwarded s r).commandWrite runFunction 0 d))
    ∧ (Settled s → Takes u seq →
      (∀ flag, checkPacket u.cmd.buffer u.cmd.coverage = .error flag →
        fails (BitVec.ofNat 16 (fieldAt u.cmd.buffer 4 2)) flag)
      ∧ ∀ p, checkPacket u.cmd.buffer u.cmd.coverage = .ok p →
        (p.part = .only → lengthFits p.function p.body = true → does (rowOf p.function seq p.body))
        ∧ (p.part = .only → lengthFits p.function p.body = false → s.cmd.openSequence = none →
          fails (BitVec.ofNat 16 p.function.number) 0x0020)
        ∧ (p.function = .loadWindows → does (.loadWindows seq p.part p.body))
        ∧ (p.function = .loadTracks → does (.loadTracks seq p.part p.body)))
    ∧ (Settled s → ¬ Takes u seq → ∀ c, sequenceOf c = some seq → does c)

/-- R152: exactly the packets that pass checks 1 to 6 are accepted, and what they are read as; and the flag of the
first check that a packet fails. -/
def Obligations.PacketChecksAcceptExactly : Prop :=
  ∀ (buffer : List Byte) (coverage : BitVec 16),
    let kind := fieldAt buffer 1 1
    let flags := fieldAt buffer 3 1
    let number := fieldAt buffer 4 2
    let length := fieldAt buffer 6 2
    let body := (buffer.drop 16).take length
    let marked := ∀ k, 64 * k < 16 + length → coverage.getLsbD k = true
    let fails := fun (flag : BitVec 16) => checkPacket buffer coverage = .error flag
    (∀ p : Packet,
      checkPacket buffer coverage = .ok p ↔
        (kind = if p.function.isGet then 0x32 else 0x31) ∧ flags = 0 ∧ number = p.function.number
        ∧ (fieldAt buffer 2 1 = match p.part with
            | .only => 0
            | .first => 1
            | .middle => 2
            | .last => 3)
        ∧ (p.part ≠ .only → p.function = .loadWindows ∨ p.function = .loadTracks)
        ∧ length ≤ 1008 ∧ marked ∧ p.body = body
        ∧ (p.body.map BitVec.toNat).sum % 65536 = fieldAt buffer 8 2)
    ∧ ((kind ≠ 0x31 ∧ kind ≠ 0x32) ∨ flags ≠ 0 → fails 0x0002)
    ∧ (kind = 0x31 ∨ kind = 0x32 → flags = 0 →
      ((∀ fn : Function, fn.number ≠ number) → fails 0x0008)
      ∧ ∀ fn : Function, fn.number = number →
        (kind ≠ (if fn.isGet then 0x32 else 0x31) → fails 0x0002)
        ∧ (kind = (if fn.isGet then 0x32 else 0x31) →
          let single := fn ≠ .loadWindows ∧ fn ≠ .loadTracks
          (3 < fieldAt buffer 2 1 ∨ (single ∧ fieldAt buffer 2 1 ≠ 0) → fails 0x0004)
          ∧ (fieldAt buffer 2 1 ≤ 3 → (single → fieldAt buffer 2 1 = 0) →
            (1008 < length ∨ ¬ marked → fails 0x0010)
            ∧ (length ≤ 1008 → marked → (body.map BitVec.toNat).sum % 65536 ≠ fieldAt buffer 8 2 → fails 0x0001))))

/-- R131, R149, R150: a passing write to a line of the Command Slot that submits nothing is forwarded, its enabled
bytes are copied, and its line is marked if it has one. -/
def Obligations.CommandSlotWriteIsCopied : Prop :=
  ∀ (s : State) (r : Passing) (rest : List Passing) (d : WriteData) (line : Nat), Settled s →
    s.straps.passOnly = false → s.path.forward = r :: rest → GrantsPassing s.path → r.write = some d →
    line < 16 → r.addr = s.straps.baseSel.toNat * 16777216 + 64 * line → s.sess.windowsAt r.addr = [] →
    s.aw.guards r.addr = none → s.cmd.buffer.length = 1024 → (line ≠ 0 ∨ d.mask.getLsbD 0 = false) →
    ∃ buffer : List Byte,
      exec .passingRequestTake s = .next
        { forwarded s r with
          cmd :=
            { s.cmd with
              buffer := buffer
              coverage := if d.mask = 0 then s.cmd.coverage else s.cmd.coverage ||| (1#16 <<< line) } }
      ∧ buffer.length = 1024
      ∧ ∀ i < 1024, buffer.getD i 0 =
          if 64 * line ≤ i ∧ i < 64 * line + 64 ∧ d.mask.getLsbD (i - 64 * line) = true then d.data.getD (i - 64 * line) 0
          else s.cmd.buffer.getD i 0

/-- R153, R171: a response is 16 header bytes and its body, cut into whole lines: the final header line, with the
first 48 body bytes, and the body lines 1, 2, … of the slot. -/
def Obligations.ResponseLinesCarryHeaderAndBody : Prop :=
  ∀ w : Working, w.body.length ≤ 1008 →
    let lines := bodyLines w.body
    (∀ j, (h : j < lines.length) → ∃ data, lines[j] = .line (j + 1) data ∧ data.length = 64)
    ∧ lines.length = (15 + w.body.length) / 64 ∧ w.finalHeader.length = 64
    ∧ (w.finalHeader ++ lines.flatMap fun o => match o with
        | .line _ data => data
        | .finalHeader => []).take (16 + w.body.length)
      = [w.seq, 2] ++ leBytes 2 w.function.toNat ++ leBytes 2 w.flags.toNat ++ leBytes 2 w.body.length
        ++ leBytes 2 ((w.body.map BitVec.toNat).sum % 65536) ++ List.replicate 6 0 ++ w.body

/-! ### Session functions (Section 1) -/

/-- R5: SetSession. -/
def Obligations.SetSessionResult : Prop :=
  ∀ (s : State) (seq : Byte) (n : BitVec 16) (d r : Byte) (us : BitVec 32), Reaches s seq →
    let u := taken s seq .setSession
    exec (.setSession seq n d r us) s = .next
      (if s.sess.state ≠ .idle then refused u .notIdle
      else if n ≠ 64 ∧ n ≠ 128 ∧ n ≠ 256 then refused u .badValue
      else if d = 0 ∨ 4 < d.toNat then refused u .badValue
      else if r ≠ 1 ∧ r ≠ 2 then refused u .badValue
      else
        done
          { u with
            sess :=
              { s.sess with
                record := some ⟨n.toNat, d.toNat, max 100 (min us.toNat 100000), if r = 1 then .r48k else .r96k⟩ } }
          [])

/-- R6, R156, R172: LoadWindows, sent in one part or ended by its LAST part. What else a window number holds stays
until Start (the model's choice, assumption 24). -/
def Obligations.LoadWindowsResult : Prop :=
  ∀ (s : State) (seq : Byte) (es : List WindowEntry), Settled s → Takes s seq → (∀ e ∈ es, windowEntryFits e) →
    let fits := fun (p : Source) => ∃ e ∈ es, e.window = p.window ∧ p.lane < e.lanes
    let result := fun (u : State) =>
      if s.sess.state ≠ .idle then refused u .notIdle
      else if s.sess.record = none then refused u .notConfigured
      else if 16 < es.length then refused u .capacity
      else if ¬ ∀ e ∈ es, windowEntryValid e then refused u .badValue
      else if ¬ (es.map WindowEntry.window).Nodup then refused u .duplicateEntry
      else if ¬ ∀ x ∈ s.tracks, x.record.enabled = true →
          (∀ p ∈ x.record.primary, fits p) ∧ (∀ p ∈ x.record.alternate, fits p) then refused u .badValue
      else
        done
          { u with
            sess :=
              { s.sess with
                windows := s.sess.windows.zipIdx.map fun (x, w) =>
                  { x with record := (es.find? fun e => e.window == w).map windowRecordOf } } }
          []
    (s.cmd.openSequence = none → es.length ≤ 41 →
      exec (.loadWindows seq .only (windowsBytes es)) s = .next (result (taken s seq .loadWindows)))
    ∧ ∀ parts staged body, s.cmd.openSequence = some ⟨.loadWindows, parts, staged⟩ → body.length ≤ 1008 →
      es.length ≤ 170 → staged ++ body = windowsBytes es →
      exec (.loadWindows seq .last body) s = .next
        (result (taken { s with cmd := { s.cmd with openSequence := none } } seq .loadWindows))

/-- R27, R156, R172: LoadTracks, sent in one part or ended by its LAST part. -/
def Obligations.LoadTracksResult : Prop :=
  ∀ (s : State) (seq : Byte) (es : List TrackEntry), Settled s → Takes s seq → (∀ e ∈ es, trackEntryFits e) →
    let result := fun (u : State) =>
      if s.sess.state ≠ .idle then refused u .notIdle
      else if 128 < es.length then refused u .capacity
      else if ¬ ∀ e ∈ es, trackEntryValid s e then refused u .badValue
      else if ¬ (es.map TrackEntry.track).Nodup then refused u .duplicateEntry
      else if ¬ (sourcesOf es).Nodup then refused u .duplicateEntry
      else
        done
          { u with
            tracks := s.tracks.zipIdx.map fun (x, t) =>
              { x with record := ((es.find? fun e => e.track == t).map trackRecordOf).getD TrackRecord.default } }
          []
    (s.cmd.openSequence = none → es.length ≤ 83 →
      exec (.loadTracks seq .only (tracksBytes es)) s = .next (result (taken s seq .loadTracks)))
    ∧ ∀ parts staged body, s.cmd.openSequence = some ⟨.loadTracks, parts, staged⟩ → body.length ≤ 1008 →
      es.length ≤ 255 → staged ++ body = tracksBytes es →
      exec (.loadTracks seq .last body) s = .next
        (result (taken { s with cmd := { s.cmd with openSequence := none } } seq .loadTracks))

/-- R7, with what the other sections have their blocks do at Start (R33, R38, R54, R55, R64, R75, R77, R95, R112,
R113, R129, R130, R136, R142, R144): Start. That it empties the recorded numbers of MIRROR_LOSS is the model's reading
(assumption 18); that it clears the late mark of each loaded window (assumption 4), and leaves what an unloaded window
number kept but for its counters (assumption 24), is the model's choice. -/
def Obligations.StartBeginsASession : Prop :=
  ∀ (s : State) (seq : Byte), Reaches s seq →
    let u := taken s seq .start
    exec (.start seq) s = .next
      (if s.sess.state ≠ .idle then refused u .notIdle
      else if s.sess.record = none then refused u .notConfigured
      else if ∀ x ∈ s.tracks, x.record.enabled = false then refused u .notConfigured
      else if ¬ s.regions.Pairwise fun a b => ¬ Overlap a b then refused u .overlap
      else if ¬ ∀ t ∈ s.aw.releaseOrder, (s.tracks.getD t Track.reset).record.enabled = true then
        refused u .unknownTrack
      else
        done
          { u with
            sess :=
              ⟨.armed, s.sess.record, satInc s.sess.serial, none, none, s.sess.windows.map fun x =>
                if x.record = none then { x with strayArmed := true, counts := ⟨0, 0, 0, 0, 0, 0, 0⟩ }
                else ⟨x.record, 0, none, true, .live, false, 0, true, false, ⟨0, 0, 0, 0, 0, 0, 0⟩⟩⟩
            ft := ⟨[], none, 0, none, (s.tracks.filter fun x => x.record.enabled).length, ⟨0, 0, 0, 0, 0, 0, 0⟩⟩
            buffers := []
            tracks := s.tracks.map fun x =>
              ⟨x.record, if x.record.enabled then .waiting else .idle, 0, none, 0, 0, 0, 0⟩
            buses := s.buses.map fun b => ⟨b.target, b.target, b.muteTarget, b.muteTarget, 0, 0, 0⟩
            aw :=
              { s.aw with
                archiving := s.aw.area.isSome && !s.aw.releaseOrder.isEmpty
                full := false
                pendingDiscontinuity := false
                closing := none
                counters := ⟨0, 0, 0, 0, 0, 0, 0, 0, 0, 0⟩ }
            sw :=
              { s.sw with
                streams := s.sw.streams.zipIdx.map fun (x, k) =>
                  match x.record with
                  | some b =>
                    if b.enabled = 1 then
                      ⟨some b, List.replicate b.slotCount.toNat ⟨.free, [], false⟩, 0, true, true, 0,
                        BitVec.ofNat 32 (k + 1), 0, 0, 0, 0, 0, 0⟩
                    else
                      { x with
                        generator := BitVec.ofNat 32 (k + 1), filled := 0, freed := 0, dropped := 0, overwritten := 0,
                        late := 0, unmarked := 0 }
                  | none =>
                    { x with
                      generator := BitVec.ofNat 32 (k + 1), filled := 0, freed := 0, dropped := 0, overwritten := 0,
                      late := 0, unmarked := 0 } }
            path :=
              { u.path with
                archiveRefusals := 0
                responseRefusals := 0
                guardNotes := []
                pathErrors := ⟨0, 0, 0, 0, 0⟩
                errorNotes := []
                mirrorLoss := List.replicate 16 0
                mirrorNotes := [] }
            rw := filed s.rw ⟨.sessionState, 0, none, 1, 0⟩ }
          [])

/-- R12, R37, R51, R109: Stop in IDLE, in ARMED, and in RUNNING or STALLED, where every frame is closed, the OPEN
segment closes, and the outcome is not yet settled. That Stop in ARMED clears the archiving flag is the model's reading
(assumption 18), and so are that its SESSION_STATE records carry no frame number (assumption 16) and that the directory
update serial saturates (assumption 17). -/
def Obligations.StopEndsASession : Prop :=
  ∀ (s : State) (seq : Byte), Reaches s seq →
    let u := taken s seq .stop
    (s.sess.state = .idle → exec (.stop seq) s = .next (done u []))
    ∧ (s.sess.state = .armed →
      exec (.stop seq) s = .next
        (done
          { u with
            sess := { s.sess with state := .idle, timer := none }
            tracks := s.tracks.map fun x => { x with status := .idle }
            aw := { s.aw with archiving := false, full := false, closing := none }
            rw := filed s.rw ⟨.sessionState, 0, none, 0, 1⟩ }
          []))
    ∧ (s.sess.state = .running ∨ s.sess.state = .stalled → s.FrameOrder → s.aw.InArea →
      ∃ t, exec (.stop seq) s = .next t ∧ t.sess.state = .draining ∧ t.sess.timer = none
        ∧ t.ft.frames = [] ∧ t.ft.newest = (s.ft.frames.getLast?.map Frame.number).or s.ft.newest
        ∧ t.aw.openSegment = none
        ∧ t.sess.record = s.sess.record ∧ t.sess.serial = s.sess.serial ∧ t.sess.resume = s.sess.resume
        ∧ t.cmd = u.cmd ∧ t.path = u.path ∧ t.ports = u.ports ∧ t.straps = s.straps ∧ t.report = none
        ∧ t.pending = s.pending)
    ∧ (s.sess.state = .running ∨ s.sess.state = .stalled →
      let ending : State :=
        { u with
          sess := { s.sess with state := .draining, timer := none }
          rw := filed s.rw ⟨.sessionState, 0, none, 4, if s.sess.state = .running then 2 else 3⟩ }
      let c := ending.closeAll .stop
      (c.aw.openSegment = none → exec (.stop seq) s = .next { c with aw := { c.aw with closing := none } })
      ∧ ∀ n x a, c.aw.openSegment = some (n + 1) → c.aw.segments[n]? = some x → c.aw.area = some a →
        let serial := satInc c.aw.updateSerial
        let closed : Segment := { x with state := .closed, settled := false, cause := .stopped }
        exec (.stop seq) s = .next
          { c with
            aw :=
              { c.aw with
                segments := c.aw.segments.set n { closed with updateSerial := serial }
                updateSerial := serial
                out := c.aw.out ++ [.directory (a.base + 64 * (n + 1)) (directoryRecord (n + 1) closed serial)
                  (.directoryRecord (n + 1) .closed)]
                closing := some (n + 1)
                counters := { c.aw.counters with closed := satInc c.aw.counters.closed } } })

/-! ### Tracks, buses, streams (Sections 2, 4, 7) -/

/-- R98: LoadReleaseOrder. -/
def Obligations.LoadReleaseOrderResult : Prop :=
  ∀ (s : State) (seq : Byte) (ts : List Byte), Reaches s seq →
    let u := taken s seq .loadReleaseOrder
    exec (.loadReleaseOrder seq ts) s = .next
      (if s.sess.state ≠ .idle then refused u .notIdle
      else if 128 < ts.length then refused u .capacity
      else if ¬ ∀ t ∈ ts, t.toNat ≤ 127 then refused u .badValue
      else if ¬ ts.Nodup then refused u .duplicateEntry
      else done { u with aw := { s.aw with releaseOrder := ts.map BitVec.toNat } } [])

/-- R58: LoadBus. -/
def Obligations.LoadBusResult : Prop :=
  ∀ (s : State) (seq bus : Byte) (es : List BusEntry), Reaches s seq → s.buses.length = 8 →
    let u := taken s seq .loadBus
    exec (.loadBus seq bus es) s = .next
      (if 7 < bus.toNat then refused u .badValue
      else if 32 < es.length then refused u .capacity
      else if ¬ ∀ e ∈ es, e.track.toNat ≤ 127 then refused u .badValue
      else if ¬ (es.map BusEntry.track).Nodup then refused u .duplicateEntry
      else
        done
          { u with
            buses := s.buses.zipIdx.map fun (b, n) =>
              if n = bus.toNat then { b with target := es.map fun e => ⟨e.track.toNat, e.coefficient.toInt⟩ } else b }
          [])

/-- R59: SetBusLevel. -/
def Obligations.SetBusLevelResult : Prop :=
  ∀ (s : State) (seq : Byte) (es : List LevelEntry), Reaches s seq → s.buses.length = 8 →
    let u := taken s seq .setBusLevel
    exec (.setBusLevel seq es) s = .next
      (if es = [] then refused u .badValue
      else if 16 < es.length then refused u .capacity
      else if ¬ ∀ e ∈ es, ∃ b ∈ s.buses[e.bus.toNat]?, e.track.toNat ∈ b.target.map BusInput.track then
        refused u .badValue
      else if ¬ (es.map fun e => (e.bus, e.track)).Nodup then refused u .duplicateEntry
      else
        done
          { u with
            buses := s.buses.zipIdx.map fun (b, n) =>
              { b with
                target := b.target.map fun i =>
                  match es.filter fun e => e.bus.toNat == n && e.track.toNat == i.track with
                  | e :: _ => ⟨i.track, e.coefficient.toInt⟩
                  | [] => i } }
          [])

/-- R60: SetBusMute. -/
def Obligations.SetBusMuteResult : Prop :=
  ∀ (s : State) (seq selection setting : Byte), Reaches s seq →
    let u := taken s seq .setBusMute
    exec (.setBusMute seq selection setting) s = .next
      (if setting ≠ 0 ∧ setting ≠ 1 then refused u .badValue
      else
        done
          { u with
            buses := s.buses.zipIdx.map fun (b, n) =>
              if selection.getLsbD n = true then { b with muteTarget := decide (setting = 1) } else b }
          [])

/-- R115, R130: SetStream. -/
def Obligations.SetStreamResult : Prop :=
  ∀ (s : State) (seq : Byte) (b : StreamBody), Reaches s seq →
    let u := taken s seq .setStream
    let used := (leBytes 8 b.buses.toNat).take b.busCount.toNat
    let store := fun (b : StreamBody) =>
      done
        { u with
          sw :=
            { s.sw with
              streams := s.sw.streams.zipIdx.map fun (x, k) =>
                if k = b.stream.toNat then
                  { x with
                    record := some b, slots := List.replicate b.slotCount.toNat ⟨.free, [], false⟩
                    writePosition := 0, watermarkArmed := true, staleArmed := true, staleCount := 0 }
                else x } }
        []
    exec (.setStream seq b) s = .next
      (if s.sess.state ≠ .idle then refused u .notIdle
      else if 3 < b.stream.toNat then refused u .badValue
      else if b.enabled ≠ 0 ∧ b.enabled ≠ 1 then refused u .badValue
      else if b.enabled = 0 then store b
      else if b.busCount = 0 then refused u .badValue
      else if 8 < b.busCount.toNat then refused u .capacity
      else if ¬ ∀ n ∈ used, n.toNat ≤ 7 then refused u .badValue
      else if 1 < b.width.toNat ∨ 1 < b.dither.toNat ∨ (b.dither = 1 ∧ b.width = 1) then refused u .badValue
      else if b.base.toNat % 4096 ≠ 0 then refused u .badValue
      else if b.slotCount.toNat < 4 ∨ 64 < b.slotCount.toNat then refused u .badValue
      else if 1 < b.policy.toNat then refused u .badValue
      else if 2 ^ 40 < b.base.toNat + b.slotCount.toNat *
          (64 + 256 * b.busCount.toNat * (if b.width = 0 then 2 else 4)) then refused u .badValue
      else if ¬ used.Nodup then refused u .duplicateEntry
      else
        store
          { b with
            watermark := BitVec.ofNat 16 (max 1 (min b.watermark.toNat b.slotCount.toNat))
            staleLimit := BitVec.ofNat 16 (max 1 (min b.staleLimit.toNat 1000)) })

/-! ### The archive and report functions (Sections 6, 8, 10) -/

/-- R97, R101, R105: SetArchive; the directory header and one FREE record for each data segment, with update serials
from 1, join the output list in segment order; and the layout of both kinds of line, for a FREE, an OPEN and a CLOSED
segment. -/
def Obligations.SetArchiveResult : Prop :=
  (∀ a, directoryHeader a = directoryHeaderLine a)
  ∧ (∀ n x serial, directoryRecord n x serial = directoryRecordLine n x serial)
  ∧ ∀ (s : State) (seq : Byte) (b : ArchiveBody), Reaches s seq →
    let u := taken s seq .setArchive
    let a := areaOf b
    let slot := s.straps.baseSel.toNat * 16777216
    let fresh : Nat → Segment := fun serial => ⟨.free, true, .none, 0, 0, 0, 0, 0, 0, 0, 0, serial⟩
    exec (.setArchive seq b) s = .next
      (if s.sess.state ≠ .idle then refused u .notIdle
      else if ∃ x ∈ s.aw.segments, x.state ≠ .free then refused u .notEmpty
      else if b.sizeMiB.toNat ∉ [1, 2, 4, 8, 16, 32, 64] then refused u .badValue
      else if b.count.toNat < 2 ∨ 256 < b.count.toNat then refused u .badValue
      else if b.base.toNat % (b.sizeMiB.toNat * 1048576) ≠ 0 then refused u .badValue
      else if 2 ^ 40 < b.base.toNat + b.count.toNat * (b.sizeMiB.toNat * 1048576) then refused u .badValue
      else if Overlap ⟨b.base.toNat, b.count.toNat * (b.sizeMiB.toNat * 1048576)⟩ ⟨slot, 2048⟩ then refused u .overlap
      else if b.high.toNat ≤ b.low.toNat ∨ b.count.toNat ≤ b.high.toNat then refused u .badValue
      else
        done
          { u with
            aw :=
              { s.aw with
                area := some a
                segments := (List.range (b.count.toNat - 1)).map fun i => fresh (i + 1)
                full := false
                warning := false
                updateSerial := b.count.toNat - 1
                out := s.aw.out ++ [.directory b.base.toNat (directoryHeader a) .directoryHeader]
                  ++ (List.range (b.count.toNat - 1)).map fun i =>
                    .directory (b.base.toNat + 64 * (i + 1)) (directoryRecord (i + 1) (fresh 0) (i + 1))
                      (.directoryRecord (i + 1) .free) } }
          [])

/-- R99, R101, R106, R108: ReleaseSegment. That the directory update serial saturates is the model's reading
(assumption 17). -/
def Obligations.ReleaseSegmentResult : Prop :=
  ∀ (s : State) (seq : Byte) (n : BitVec 16), Reaches s seq →
    let u := taken s seq .releaseSegment
    (s.aw.area = none → exec (.releaseSegment seq n) s = .next (refused u .notConfigured))
    ∧ ∀ a, s.aw.area = some a → s.aw.segments.length = a.count - 1 →
      (a.count ≤ n.toNat → exec (.releaseSegment seq n) s = .next (refused u .badValue))
      ∧ (n.toNat < a.count → (n = 0 ∨ ∃ x ∈ s.aw.segments[n.toNat - 1]?, x.state ≠ .closed ∨ x.settled = false) →
        exec (.releaseSegment seq n) s = .next (refused u .notClosed))
      ∧ ∀ x, n ≠ 0 → s.aw.segments[n.toNat - 1]? = some x → x.state = .closed → x.settled = true →
        let free := (s.aw.segments.filter fun y => y.state == .free).length + 1
        exec (.releaseSegment seq n) s = .next
          (done
            { u with
              aw :=
                { s.aw with
                  segments := s.aw.segments.set (n.toNat - 1)
                    ⟨.free, true, .none, 0, 0, 0, 0, 0, 0, 0, 0, satInc s.aw.updateSerial⟩
                  updateSerial := satInc s.aw.updateSerial
                  out := s.aw.out ++ [.directory (a.base + 64 * n.toNat)
                    (directoryRecord n.toNat ⟨.free, true, .none, 0, 0, 0, 0, 0, 0, 0, 0, 0⟩ (satInc s.aw.updateSerial))
                    (.directoryRecord n.toNat .free)]
                  warning := if s.aw.warning then decide (free < a.high) else decide (free ≤ a.low) }
              rw := if s.aw.warning = true ∧ a.high ≤ free then
                  filed s.rw ⟨.spaceOk, a.count, s.ft.newest, free, a.high⟩
                else if s.aw.warning = false ∧ free ≤ a.low then
                  filed s.rw ⟨.spaceLow, a.count, s.ft.newest, free, a.low⟩
                else s.rw }
            [])

/-- R164, R168: SetReports. -/
def Obligations.SetReportsResult : Prop :=
  ∀ (s : State) (seq : Byte) (b : ReportsBody), Reaches s seq →
    let u := taken s seq .setReports
    let ring : Region := ⟨b.base.toNat, 32 * b.count.toNat⟩
    exec (.setReports seq b) s = .next
      (if ¬ ∀ f ∈ leBytes 8 b.records.toNat ++ leBytes 8 b.pulses.toNat, f = 0 ∨ f = 1 then refused u .badValue
      else if ¬ ∃ k ≤ 12, 4 ≤ k ∧ b.count.toNat = 2 ^ k then refused u .badValue
      else if b.base.toNat % 4096 ≠ 0 then refused u .badValue
      else if 2 ^ 40 < b.base.toNat + 32 * b.count.toNat then refused u .badValue
      else if ∃ r ∈ s.regionsButReports, Overlap r ring then refused u .overlap
      else
        done
          { u with
            rw :=
              ⟨some ⟨b.base.toNat, b.count.toNat, classFlags b.records, classFlags b.pulses⟩, 0, 0,
                if s.rw.startup then
                  [⟨⟨.startup, 0, none, s.cmd.causes.value, b.count.toNat⟩, b.pulses.getLsbD 0⟩]
                else [],
                0, false⟩ }
          [])

/-- R141, R158: SetInsertion and PinSettings. That a share counter above the new P keeps its value (assumption 28), and
that a grant owed to insertion is not kept where P is raised (assumption 34), is the model's choice. -/
def Obligations.InsertionAndPinSettingsResult : Prop :=
  ∀ (s : State) (seq setting : Byte) (b : InsertionBody), Reaches s seq →
    let u := taken s seq .setInsertion
    let v := taken s seq .pinSettings
    exec (.setInsertion seq b) s = .next
      (if 3 < b.response.toNat ∨ 3 < b.report.toNat ∨ 3 < b.stream.toNat ∨ 3 < b.mirror.toNat ∨ 3 < b.archive.toNat then
        refused u .badValue
      else
        done
          { u with
            path :=
              { u.path with
                levels := ⟨b.response.toNat, b.report.toNat, b.stream.toNat, b.mirror.toNat, b.archive.toNat⟩
                shareLimit := max 1 (min b.share.toNat 16) } }
          [])
    ∧ exec (.pinSettings seq setting) s = .next
      (if setting = 0 ∨ setting = 1 then done { v with cmd := { v.cmd with pin := decide (setting = 1) } } []
      else refused v .badValue)

/-! ### Pinning, Restart and the queries (Section 9) -/

/-- R14, R37, R53, R78, R110, R113, R130, R148, R159, R160, R169: Restart. That the count of missed closes is kept
with a window's liveness is the model's reading (assumption 18), and so is that the directory update serial saturates
(assumption 17). -/
def Obligations.RestartResult : Prop :=
  ∀ (s : State) (seq : Byte), Reaches s seq →
    let u := taken s seq .restart
    ∃ t, exec (.restart seq) s = .next t
      ∧ t.sess.state = .idle ∧ t.sess.timer = none ∧ t.sess.resume = none ∧ t.sess.serial = s.sess.serial
      ∧ (∀ x ∈ t.sess.windows, x.anchor = 0 ∧ x.reference = none ∧ x.anchored = true)
      ∧ t.ft = ⟨[], none, 0, none, 0, s.ft.counters⟩ ∧ t.buffers = []
      ∧ (∀ x ∈ t.tracks, x.status = .idle ∧ x.run = 0 ∧ x.last = none)
      ∧ t.aw.staging = [] ∧ t.aw.archiving = false ∧ t.aw.full = false ∧ t.sw.out = []
      ∧ t.rw.queue = [] ∧ t.rw.startup = true ∧ t.rw.lost = s.rw.lost
      ∧ t.path =
        { u.path with
          queues := ⟨u.path.queues.response, [], [], [], []⟩
          levels := if s.cmd.pin then s.path.levels else ⟨3, 2, 2, 1, 1⟩
          shareLimit := if s.cmd.pin then s.path.shareLimit else 4 }
      ∧ t.cmd =
        (done { u with cmd := { u.cmd with causes := { s.cmd.causes with restart := true } } } []).cmd
      ∧ (s.cmd.pin = true →
        t.sess.record = s.sess.record
        ∧ t.sess.windows = s.sess.windows.map (fun x => { x with anchor := 0, reference := none, anchored := true })
        ∧ t.tracks = s.tracks.map (fun x => { x with status := .idle, run := 0, last := none }) ∧ t.buses = s.buses
        ∧ t.sw = ⟨s.sw.streams.map fun x =>
            { x with slots := x.slots.map fun q => if q.state = .filling then ⟨.free, [], false⟩ else q }, []⟩
        ∧ t.aw.area = s.aw.area
        ∧ t.aw.releaseOrder = s.aw.releaseOrder ∧ t.rw.settings = s.rw.settings ∧ t.rw.index = s.rw.index
        ∧ t.rw.serial = s.rw.serial
        ∧ (s.aw.InArea → s.aw.updateSerial ≤ 4294967295 →
          t.aw = resetArchive s.aw s.path.queues.archive true))
      ∧ (s.cmd.pin = false →
        t.sess.record = none ∧ (∀ x ∈ t.sess.windows, x.record = none) ∧ (∀ x ∈ t.tracks, x = Track.reset)
        ∧ t.buses = s.buses.map (fun b => ⟨[], [], false, false, b.peak, b.overCount, b.overFrames⟩)
        ∧ t.sw = ⟨s.sw.streams.map fun x =>
            { x with
              record := none, slots := [], writePosition := 0, watermarkArmed := true, staleArmed := true,
              staleCount := 0 }, []⟩
        ∧ t.aw = { ArchiveWriter.reset with counters := s.aw.counters }
        ∧ t.rw = ⟨none, 0, 0, [], s.rw.lost, true⟩)
      ∧ t.straps = s.straps ∧ t.ports = u.ports ∧ t.report = none ∧ t.pending = s.pending

/-- R111, R128, R157, R160, R161: GetSession, GetStreams and GetArchive change nothing but the Command Unit's answer;
GetFailReason and GetResetCause answer with one byte and clear what they report. The form of the open-sequence field of
GetSession, and so its 187 bytes, and the bytes of items that do not apply are as assumption 8 says; that the taken
counter it reports counts the packet itself (assumption 32), and what GetStreams reports beyond a record's bus count and
of a disabled stream's ring base (assumption 27), is the model's choice. -/
def Obligations.StatusQueriesAnswerAndClear : Prop :=
  ∀ (s : State) (seq : Byte), Reaches s seq →
    let u := taken s seq .getFailReason
    let v := taken s seq .getResetCause
    let streams := s.sw.streams.flatMap (streamReport s.sess.record)
    exec (.getSession seq) s = .next (done (taken s seq .getSession) (sessionReport (taken s seq .getSession)))
    ∧ exec (.getStreams seq) s = .next (done (taken s seq .getStreams) streams)
    ∧ exec (.getArchive seq) s = .next (done (taken s seq .getArchive) (archiveReport (taken s seq .getArchive)))
    ∧ (s.path.mirrorLoss.length = 16 → (sessionReport (taken s seq .getSession)).length = 187)
    ∧ (archiveReport (taken s seq .getArchive)).length = 82 + s.aw.segments.length
    ∧ streams.length = (s.sw.streams.map fun x => 72 + if (enabledRecord x).isSome then x.slots.length else 0).sum
    ∧ exec (.getFailReason seq) s = .next
        (done { u with cmd := { u.cmd with failReason := .none } } [BitVec.ofNat 8 s.cmd.failReason.code])
    ∧ exec (.getResetCause seq) s = .next
        (done { v with cmd := { v.cmd with causes := ⟨false, false, false⟩ } }
          [BitVec.ofNat 8 ((if s.cmd.causes.power then 1 else 0) + (if s.cmd.causes.path then 2 else 0)
            + (if s.cmd.causes.restart then 4 else 0))])

/-- R38, R173: GetTracks. The fields of a source that is absent are as assumption 8 says. -/
def Obligations.GetTracksResult : Prop :=
  ∀ (s : State) (seq first count : Byte), Reaches s seq →
    let u := taken s seq .getTracks
    let n := min count.toNat (128 - first.toNat)
    exec (.getTracks seq first count) s = .next
      (if 127 < first.toNat then refused u .badValue
      else if count = 0 ∨ 24 < count.toNat then refused u .badValue
      else
        done u
          ([BitVec.ofNat 8 n] ++ (List.range n).flatMap fun i =>
            trackReport (s.tracks.getD (first.toNat + i) Track.reset) (satInc s.cmd.taken) (first.toNat + i)))

/-- R23, R77, R173: GetWindows and GetMeters answer with what stood before they cleared the change flags and the
meters; the bodies are 976 and 128 bytes. The bytes of an absent mirror base are free values (assumption 8). -/
def Obligations.WindowAndMeterQueriesReportAndClear : Prop :=
  ∀ (s : State) (seq : Byte), Reaches s seq →
    let u := taken s seq .getWindows
    let v := taken s seq .getMeters
    let windows := s.sess.windows.zipIdx.flatMap fun (x, w) => windowReport x (satInc s.cmd.taken) w
    exec (.getWindows seq) s = .next
        (done { u with sess := { s.sess with windows := s.sess.windows.map fun x => { x with changed := false } } }
          windows)
    ∧ (s.sess.windows.length = 16 → windows.length = 976)
    ∧ exec (.getMeters seq) s = .next
        (done { v with buses := s.buses.map fun b => { b with peak := 0, overCount := 0, overFrames := 0 } }
          (s.buses.flatMap busReport))
    ∧ (s.buses.length = 8 → (s.buses.flatMap busReport).length = 128)

/-! ### Resets, requests and completions (Sections 1 and 8) -/

/-- The power-on columns of R14, R37, R55, R78, R95, R113, R130, R148, R163 and R169, for every level of the straps. That
the requests that wait at the port are dropped (assumption 30), that the commands that wait outside are kept (assumption
1), and the values of what the manual gives none (assumption 4), are the model's choice. -/
def Obligations.PowerOnResetRestoresTheResetState : Prop :=
  ∀ (s : State) (b : BitVec 8) (strap : Bool),
    exec (.powerOnReset b strap) s = .next { State.reset with straps := ⟨b, strap⟩, pending := s.pending }
    ∧ State.reset.sess.state = .idle ∧ State.reset.sess.record = none ∧ State.reset.sess.serial = 0
    ∧ State.reset.path.levels = ⟨3, 2, 2, 1, 1⟩ ∧ State.reset.path.shareLimit = 4
    ∧ State.reset.cmd.causes = ⟨true, false, false⟩ ∧ State.reset.cmd.lastTaken = 0
    ∧ State.reset.cmd.buffer = List.replicate 1024 0 ∧ State.reset.rw.startup = true ∧ State.reset.aw.area = none

/-- R14, R37, R53, R78, R110, R130, R146, R147, R162, R163, R169: a path reset. A request that waits at the port is no
part of the forward queue and is taken in (the model's reading, assumption 6); the directory update serial saturates
(assumption 17), and a window's count of missed closes is kept with its liveness (assumption 18). -/
def Obligations.PathResetEndsTheSession : Prop :=
  ∀ s : State, Settled s →
    let passing : PathUnit :=
      { s.path with forward := s.path.waiting.take 32, waiting := s.path.waiting.drop 32 }
    (s.straps.passOnly = true → exec .pathReset s = .next { quiet s with path := passing })
    ∧ (s.straps.passOnly = false →
      ∃ t, exec .pathReset s = .next t
        ∧ t.sess = ⟨.idle, s.sess.record, s.sess.serial, none, none,
            s.sess.windows.map fun x => { x with anchor := 0, reference := none, anchored := true }⟩
        ∧ t.ft = ⟨[], none, 0, none, 0, s.ft.counters⟩ ∧ t.buffers = []
        ∧ t.tracks = s.tracks.map (fun x => { x with status := .idle, run := 0, last := none })
        ∧ t.buses = s.buses
        ∧ t.sw = ⟨s.sw.streams.map fun x =>
            { x with slots := x.slots.map fun q => if q.state = .filling then ⟨.free, [], false⟩ else q }, []⟩
        ∧ t.aw.staging = [] ∧ t.aw.archiving = false ∧ t.aw.full = false ∧ t.aw.area = s.aw.area
        ∧ t.aw.releaseOrder = s.aw.releaseOrder ∧ t.aw.pendingDiscontinuity = s.aw.pendingDiscontinuity
        ∧ (s.aw.InArea → s.aw.updateSerial ≤ 4294967295 →
          t.aw = resetArchive s.aw s.path.queues.archive false)
        ∧ t.rw = { s.rw with queue := [], startup := true }
        ∧ t.path =
          { passing with
            outstanding := []
            share := 0
            queues := ⟨(s.cmd.working.map fun w =>
                ⟨s.path.nextOrder, s.straps.baseSel.toNat * 16777216 + 1024,
                  ⟨[w.seq, 3] ++ leBytes 2 w.function.toNat ++ leBytes 2 (w.flags &&& 0x0100).toNat
                    ++ List.replicate 58 0, fullMask⟩, .responseLine⟩).toList, [], [], [], []⟩
            nextOrder := if s.cmd.working = none then s.path.nextOrder else s.path.nextOrder + 1
            abandonedFirst := s.cmd.working.isSome }
        ∧ t.cmd =
          { s.cmd with
            coverage := 0
            working := none
            out := []
            openSequence := none
            causes := { s.cmd.causes with path := true }
            abandoned := if s.cmd.working = none then s.cmd.abandoned else satInc s.cmd.abandoned }
        ∧ t.straps = s.straps ∧ t.ports = ⟨none, none, false⟩ ∧ t.report = none ∧ t.pending = s.pending)

/-- R131, R132: an arriving request takes the next entry order; it joins the forward queue while that holds fewer than
32, and waits at the port otherwise. That the low six bits of its address are ignored is the model's choice (assumption
12). -/
def Obligations.ArrivingRequestTakesTheNextOrder : Prop :=
  ∀ (s : State) (addr : BitVec 40) (data : BitVec 512) (mask : BitVec 64) (tag : BitVec 4), Settled s →
    (s.path.waiting = [] ∨ 32 ≤ s.path.forward.length) →
    let bytes := (List.range 64).map fun k => data.extractLsb' (8 * k) 8
    let arrived := fun (write : Option WriteData) =>
      let r : Passing := ⟨s.path.nextOrder, 64 * (addr.toNat / 64), tag, write⟩
      ({ quiet s with
        path :=
          { s.path with
            nextOrder := s.path.nextOrder + 1
            forward := if s.path.forward.length < 32 then s.path.forward ++ [r] else s.path.forward
            waiting := if s.path.forward.length < 32 then [] else s.path.waiting ++ [r] } } : State)
    exec (.lineWrite addr data mask tag) s = .next (arrived (some ⟨bytes, mask⟩))
    ∧ exec (.lineRead addr tag) s = .next (arrived none)

/-- R131, R134, R146: a request in no region, a read outside every stream ring, a write in a region whose owner does
nothing at a write (a mirror target, a stream ring, the report ring, a FREE segment), and every request of a part with
pass-only asserted is issued as it arrived, and nothing else happens. What makes the head of the forward queue eligible
(R132); and where the grant does not go to passing traffic, the row changes nothing (the model's choice, assumption 13;
grants are judged by the present P, assumption 34). -/
def Obligations.UnownedRequestIsOnlyForwarded : Prop :=
  (∀ u : PathUnit, u.headEligible = true ↔ ∃ r rest, u.forward = r :: rest ∧ Eligible u r.addr r.order)
  ∧ (∀ s : State, Settled s →
    (s.path.forward = [] ∨ (s.straps.passOnly = false ∧ ¬ GrantsPassing s.path)) →
    exec .passingRequestTake s = .next (quiet s))
  ∧ ∀ (s : State) (r : Passing) (rest : List Passing), Settled s → s.path.forward = r :: rest →
    (s.straps.passOnly = true
      ∨ (GrantsPassing s.path
        ∧ ((∀ q ∈ s.regions, ¬ (q.base ≤ r.addr ∧ r.addr < q.base + q.length))
          ∨ (r.write = none ∧ s.streamsAt r.addr = [])
          ∨ (r.write ≠ none ∧ s.sess.windowsAt r.addr = [] ∧ s.aw.guards r.addr = none
            ∧ ¬ InCommandSlot s r.addr ∧ ¬ InResponseSlot s r.addr)))) →
    exec .passingRequestTake s = .next (forwarded s r)

/-- R131, R133, R135, R136: a write to the Response Slot, or to a line of the archive's guard set, leaves the queue
with Write Refused, is counted, and is recorded once between two frame closes. -/
def Obligations.GuardedWriteIsRefused : Prop :=
  ∀ (s : State) (r : Passing) (rest : List Passing) (d : WriteData), Settled s → s.straps.passOnly = false →
    s.path.forward = r :: rest → GrantsPassing s.path → r.write = some d →
    let after := fun (target count : Nat) (u : PathUnit) =>
      ({ s with
        ports := ⟨none, some ⟨r.tag, .writeRefused⟩, false⟩
        path :=
          { u with
            guardNotes := ⟨target, s.ft.newest⟩ :: s.path.guardNotes.filter fun n => n.target != target }
        rw := if ⟨target, s.ft.newest⟩ ∈ s.path.guardNotes then s.rw
          else filed s.rw ⟨.guardRefusal, target, s.ft.newest, r.tag.toNat, satInc count⟩ } : State)
    (InResponseSlot s r.addr →
      exec .passingRequestTake s = .next
        (after 0xFFFF s.path.responseRefusals
          { headLeft s.path with responseRefusals := satInc s.path.responseRefusals }))
    ∧ ∀ n ≤ 255, ¬ InResponseSlot s r.addr → InGuardedSegment s r.addr n →
      exec .passingRequestTake s = .next
        (after n s.path.archiveRefusals
          { headLeft s.path with archiveRefusals := satInc s.path.archiveRefusals })

/-- R133, R142: memory's completion of a passing request goes upstream by its tag; that of an inserted line is kept,
and a refusal is counted and recorded. A completion of no outstanding request is discarded (assumption 9). -/
def Obligations.CompletionsAreReturnedOrKept : Prop :=
  ∀ (s : State) (order : Nat) (data : BitVec 512), Settled s →
    let ended : State :=
      { quiet s with path := { s.path with outstanding := s.path.outstanding.filter fun o => o.order != order } }
    let up := fun (tag : BitVec 4) (c : Completion) => ({ ended with ports := ⟨none, some ⟨tag, c⟩, false⟩ } : State)
    ((∀ o ∈ s.path.outstanding, o.order ≠ order) →
      exec (.writeDone order) s = .next (quiet s) ∧ exec (.writeRefused order) s = .next (quiet s)
      ∧ exec (.readData order data) s = .next (quiet s) ∧ exec (.readRefused order) s = .next (quiet s))
    ∧ ∀ o ∈ s.path.outstanding, o.order = order → (∀ x ∈ s.path.outstanding, x.order = order → x = o) →
      (∀ tag, o.origin = .passing tag → o.isWrite = true →
        exec (.writeDone order) s = .next (up tag .writeDone)
        ∧ exec (.writeRefused order) s = .next (up tag .writeRefused))
      ∧ (∀ tag, o.origin = .passing tag → o.isWrite = false →
        exec (.readData order data) s = .next (up tag (.readData data))
        ∧ exec (.readRefused order) s = .next (up tag .readRefused))
      ∧ ∀ p, o.origin = .inserted p → o.isWrite = true →
        exec (.writeDone order) s = .next ended
        ∧ exec (.writeRefused order) s = .next
          { ended with
            path :=
              { ended.path with
                pathErrors := s.path.pathErrors.set p (satInc (s.path.pathErrors.get p))
                errorNotes := ⟨rank p, s.ft.newest⟩ :: s.path.errorNotes.filter fun n => n.target != rank p }
            rw := if ⟨rank p, s.ft.newest⟩ ∈ s.path.errorNotes then s.rw
              else filed s.rw ⟨.pathError, rank p, s.ft.newest, o.addr / 64 % 2 ^ 32,
                satInc (s.path.pathErrors.get p)⟩ }

/-- R138 to R140, R167: the head line of the chosen queue is issued with source tag 0 and its producer told: a final
header may end the command, a stream header fill its slot, a CLOSED directory record settle its segment, the last line
of an archive frame advance the forwarded values, a record pulse the notify line. That the first three effects wait in
State.report for a step of their own is the model's choice (assumption 5). What makes the head line of a queue ready
(R132, R137), with the line of an ABANDONED header before all others (R147); and where the grant goes to no queue, the row
changes nothing (the model's choice, assumption 13; grants are judged by the present P, assumption 34). -/
def Obligations.GrantedLineIsForwarded : Prop :=
  (∀ (u : PathUnit) (p : Producer),
    u.isReady p = true ↔ ∃ l rest, u.queues.get p = l :: rest ∧ Eligible u l.addr l.order
      ∧ (u.abandonedFirst = true → p = .response))
  ∧ (∀ s : State, Settled s → (∀ p, ¬ GrantsInserted s.path p) → exec .insertedLineForward s = .next (quiet s))
  ∧ ∀ (s : State) (p : Producer) (l : Inserted) (rest : List Inserted), Settled s → GrantsInserted s.path p →
    s.path.queues.get p = l :: rest →
    let v : State :=
      { s with
        ports := ⟨some ⟨l.addr, some l.write, 0⟩, none, decide (l.note = .record true)⟩
        path :=
          { s.path with
            queues := s.path.queues.set p rest
            outstanding := s.path.outstanding ++ [⟨l.order, .inserted p, true, l.addr⟩]
            share := 0
            abandonedFirst := if p = .response then false else s.path.abandonedFirst } }
    exec .insertedLineForward s = .next
      (match l.note with
      | .finalHeader =>
        { v with
          cmd := { s.cmd with working := s.cmd.working.map fun w => { w with finals := w.finals - 1 } }
          report := if ∀ w ∈ s.cmd.working, w.finals ≤ 1 then some .commandEnd else none }
      | .streamHeader k slot g => { v with report := some (.slotFilled k slot g) }
      | .directoryRecord n state =>
        if state = .closed ∧ ∃ x ∈ s.aw.segment n, x.state = .closed ∧ x.settled = false then
          { v with report := some (.segmentSettled n) }
        else v
      | .frameEnd n g count used =>
        { v with
          aw :=
            { s.aw with
              segments := s.aw.segments.zipIdx.map fun (x, i) =>
                if i + 1 = n ∧ x.state = .opened then
                  { x with forwardedLast := g, forwardedCount := count, forwardedUsed := used }
                else x } }
      | _ => v)

/-! ### Capture (Sections 1 to 4) -/

/-- R143, R144: a write into a mirrored window is copied at its offset into the mirror with the same data and mask; a
copy that finds the Mirror queue full is dropped, counted and recorded once between two closes. In IDLE, and for a
write with no byte enabled in any state, the write does nothing more; in every session state it does besides what it
does to the window without its mirror. That a MIRROR_LOSS record may stand before or behind the session's own records
is left to the free value of assumption 3; that it carries the newest closed number from before them is the model's
choice (assumption 29). -/
def Obligations.MirrorCopiesFollowTheWindow : Prop :=
  ∀ (s : State) (r : Passing) (rest : List Passing) (d : WriteData) (w : Nat) (rec : WindowRecord) (mirror : Nat),
    Settled s → s.straps.passOnly = false → s.path.forward = r :: rest → GrantsPassing s.path → r.write = some d →
    s.aw.guards r.addr = none → ¬ InCommandSlot s r.addr → ¬ InResponseSlot s r.addr →
    s.sess.windowsAt r.addr = [w] → (s.sess.window w).record = some rec → rec.mirror = some mirror →
    let u := forwarded s r
    let copied := fun (p : PathUnit) => enqueued p .mirror (mirror + (r.addr - rec.base)) d .mirrorCopy
    let counted := fun (p : PathUnit) =>
      ({ p with
        mirrorLoss := s.path.mirrorLoss.modify w satInc
        mirrorNotes := ⟨w, s.ft.newest⟩ :: s.path.mirrorNotes.filter fun n => n.target != w } : PathUnit)
    let recorded := ⟨w, s.ft.newest⟩ ∈ s.path.mirrorNotes
    let loss : Record :=
      ⟨.mirrorLoss, w, s.ft.newest, (r.addr - rec.base) / 64, satInc (s.path.mirrorLoss.getD w 0)⟩
    let mirroredAt := fun (m : Option Nat) (c : SessionControl) =>
      ({ c with windows := c.windows.modify w fun x => { x with record := some { rec with mirror := m } } } :
        SessionControl)
    let plain : State := { s with sess := mirroredAt none s.sess }
    (s.sess.state = .idle ∨ d.mask = 0 →
      exec .passingRequestTake s = .next
        (if s.path.queues.mirror.length < 64 then { u with path := copied u.path }
        else if recorded then { u with path := counted u.path }
        else { u with path := counted u.path, rw := filed s.rw loss, freeCount := s.freeCount + 1 }))
    ∧ (s.path.queues.mirror.length < 64 →
      ∃ t, exec .passingRequestTake plain = .next t
        ∧ exec .passingRequestTake s = .next { t with path := copied t.path, sess := mirroredAt (some mirror) t.sess })
    ∧ (64 ≤ s.path.queues.mirror.length → recorded →
      ∃ t, exec .passingRequestTake plain = .next t
        ∧ exec .passingRequestTake s = .next
          { t with path := counted t.path, sess := mirroredAt (some mirror) t.sess })
    ∧ (64 ≤ s.path.queues.mirror.length → ¬ recorded →
      let first := Config.freeOrder s.freeCount
      ∃ t,
        exec .passingRequestTake
          { plain with freeCount := s.freeCount + 1, rw := if first then filed s.rw loss else s.rw } = .next t
        ∧ exec .passingRequestTake s = .next
          { t with
            path := counted t.path
            sess := mirroredAt (some mirror) t.sess
            rw := if first then t.rw else filed t.rw loss })

/-- R9, R11, R13, R17: what a window write that is not a capture write does to the session in each state, and a capture
write in DRAINING. A capture write to an unanchored window, and one in STALLED, does what it would do had the window
just been anchored, or the session just been resumed, at its slot. That a resume leaves the reference which an unloaded
window number kept is the model's choice (assumption 24). -/
def Obligations.WindowWritesMoveTheSession : Prop :=
  ∀ (s : State) (r : Passing) (d : WriteData) (w : Nat) (rec : WindowRecord) (slot lane line : Nat),
    TakesWindowWrite s r d w rec slot lane line → rec.mirror = none →
    let u := forwarded s r
    let q := nextNumber s
    let anchor := fun (f : Nat) (x : Window) =>
      ({ x with
        anchor := (((f : Int) - slot) % rec.slots).toNat, reference := some f, anchored := true } : Window)
    let resumed : SessionControl :=
      { s.sess with
        state := .running, timer := some (fullStall s), resume := some q
        windows := (s.sess.windows.map fun x => if x.record = none then x else { x with reference := none }).modify w
          (anchor q) }
    (s.sess.state = .draining →
      exec .passingRequestTake s = .next
        { u with
          sess :=
            { s.sess with
              windows := s.sess.windows.modify w fun x =>
                { x with counts := { x.counts with ignored := satInc x.counts.ignored } } } })
    ∧ ((∀ x ∈ s.tracks, ¬ Names x ⟨w, lane⟩) →
      (s.sess.state = .idle ∨ s.sess.state = .armed → exec .passingRequestTake s = .next u)
      ∧ (s.sess.state = .running → (s.sess.window w).anchored = true →
        exec .passingRequestTake s = .next { u with sess := { s.sess with timer := some (fullStall s) } })
      ∧ (∀ f, s.sess.state = .running → (s.sess.window w).anchored = false → s.sess.resume = some f →
        exec .passingRequestTake s = .next
          { u with
            sess := { s.sess with timer := some (fullStall s), windows := s.sess.windows.modify w (anchor f) } })
      ∧ (s.sess.state = .stalled → s.ft.newest = some 4294967295 → exec .passingRequestTake s = .next u)
      ∧ (s.sess.state = .stalled → s.ft.newest ≠ some 4294967295 →
        exec .passingRequestTake s = .next
          { u with
            sess := resumed
            ft := { s.ft with discontinuity := some q }
            rw := filed s.rw ⟨.resume, w, some q, slot, 0⟩ }))
    ∧ ((∃ x ∈ s.tracks, Names x ⟨w, lane⟩) → rec.slots % 2 = 0 →
      (∀ f ≤ 4294967295, s.sess.state = .running → (s.sess.window w).anchored = false → s.sess.resume = some f →
        exec .passingRequestTake s = exec .passingRequestTake
          { s with sess := { s.sess with windows := s.sess.windows.modify w (anchor f) } })
      ∧ (s.sess.state = .stalled → s.ft.newest ≠ some 4294967295 → q ≤ 4294967295 →
        exec .passingRequestTake s = exec .passingRequestTake
          { s with
            sess := resumed
            ft := { s.ft with discontinuity := some q }
            rw := filed s.rw ⟨.resume, w, some q, slot, 0⟩ }))

/-- R8, R9, R15 to R20, R41 to R43, R62, R63: a capture write to an anchored window, by the frame number that its slot
maps to. A number outside 0..4,294,967,295 is stray; one that has closed is late; a write to an open frame is assembled
into its block, which it may complete, or counted where the block is COMPLETED, FAILED or without a buffer; and a write
to a number that is neither does what it would do had its frame just opened, with the end of ARMED. The last part says
what an open does: it closes the numbers up to g − D, then the complete frames that are due, then takes the frame in. -/
def Obligations.CaptureWriteIsAssembled : Prop :=
  (∀ (s : State) (r : Passing) (d : WriteData) (w : Nat) (rec : WindowRecord) (slot lane line : Nat),
    TakesWindowWrite s r d w rec slot lane line → rec.mirror = none → (∃ x ∈ s.tracks, Names x ⟨w, lane⟩) →
    rec.slots % 2 = 0 →
    let src : Source := ⟨w, lane⟩
    let x := s.sess.window w
    let reference := x.reference.getD s.ft.reference
    let control := fun (change : Window → Window) =>
      ({ s.sess with
        timer := if s.sess.state = .running then some (fullStall s) else s.sess.timer
        windows := s.sess.windows.modify w change } : SessionControl)
    let stray : State :=
      { forwarded s r with
        sess := control fun x =>
          { x with strayArmed := false, counts := { x.counts with stray := satInc x.counts.stray } }
        rw := if x.strayArmed then filed s.rw ⟨.strayWrite, w, none, slot, satInc x.counts.stray⟩ else s.rw }
    (s.sess.state = .stalled → s.ft.newest = some 4294967295 → exec .passingRequestTake s = .next stray)
    ∧ ∀ f : Int, s.sess.state = .armed ∨ s.sess.state = .running → x.anchored = true →
      f % rec.slots = ((slot + x.anchor : Nat) : Int) % rec.slots → (reference : Int) < f + (rec.slots / 2 : Nat) →
      f ≤ reference + (rec.slots / 2 : Nat) →
      (f < 0 ∨ 4294967295 < f → exec .passingRequestTake s = .next stray)
      ∧ ∀ g : Nat, f = g → g ≤ 4294967295 →
        let refer := fun (x : Window) => ({ x with reference := some (max (x.reference.getD 0) g) } : Window)
        let u : State := { forwarded s r with sess := control refer }
        let count := fun (k : WindowCounters → WindowCounters) =>
          control fun x => { refer x with counts := k x.counts }
        (g < nextNumber s →
          exec .passingRequestTake s = .next
            { forwarded s r with
              sess := control fun x =>
                { refer x with lateArmed := false, counts := { x.counts with late := satInc x.counts.late } }
              rw := if x.lateArmed then filed s.rw ⟨.lateWrite, w, some g, slot, satInc x.counts.late⟩ else s.rw })
        ∧ (nextNumber s ≤ g → s.ft.find g = none → 1 ≤ s.sess.lateness →
          (∀ a ∈ s.aw.area, r.addr < a.base ∨ a.base + a.count * (a.sizeMiB * 1048576) ≤ r.addr) →
          let o := ({ s with sess := control refer } : State).openFrame g
          exec .passingRequestTake s = exec .passingRequestTake
            (if s.sess.state = .armed then
              { o with
                sess := { o.sess with state := .running, timer := some (fullStall s) }
                rw := filed o.rw ⟨.sessionState, 0, some g, 2, 1⟩ }
            else o))
        ∧ ∀ f : Frame, nextNumber s ≤ g → s.ft.find g = some f →
          let copied := fun (lines : List BufferLine) =>
            lines.modify line fun l =>
              ⟨(List.range 64).map fun k => if d.mask.getLsbD k = true then d.data.getD k 0 else l.data.getD k 0,
                l.cover ||| d.mask⟩
          let keyed := fun (b : Buffer) => decide (b.window = w ∧ b.lane = lane ∧ b.frame = g)
          let blank := List.replicate (s.sess.blockSize / 16) (⟨List.replicate 64 0, 0⟩ : BufferLine)
          (src ∈ f.completed →
            exec .passingRequestTake s = .next { u with sess := count fun c => { c with rewrite := satInc c.rewrite } })
          ∧ (src ∉ f.completed → src ∈ f.failed → exec .passingRequestTake s = .next u)
          ∧ (src ∉ f.completed → src ∉ f.failed →
            (∀ b, s.buffers.find? keyed = some b →
              ((∃ l ∈ copied b.lines, l.cover ≠ fullMask) →
                exec .passingRequestTake s = .next
                  { u with
                    buffers := s.buffers.map fun x =>
                      if keyed x = true then { b with lines := copied b.lines } else x })
              ∧ ((∀ l ∈ copied b.lines, l.cover = fullMask) →
                let bytes := (copied b.lines).flatMap BufferLine.data
                bytes.length = 4 * s.sess.blockSize →
                exec .passingRequestTake s = .next
                  (({ u with
                    sess := count fun c => { c with completed := satInc c.completed }
                    buffers := s.buffers.filter fun x => !keyed x
                    ft :=
                      { s.ft with
                        frames := s.ft.frames.map fun x =>
                          if x.number = g then { x with completed := x.completed ++ [src] } else x } } :
                    State).selectBlock src g (samplesIn rec.format s.sess.blockSize bytes))))
            ∧ (s.buffers.find? keyed = none → s.buffers.length < 256 →
              exec .passingRequestTake s = .next { u with buffers := s.buffers ++ [⟨w, lane, g, copied blank⟩] })
            ∧ (s.buffers.find? keyed = none → 256 ≤ s.buffers.length →
              exec .passingRequestTake s = .next
                { u with
                  sess := count fun c => { c with exhausted := satInc c.exhausted }
                  ft :=
                    { s.ft with
                      frames := s.ft.frames.map fun x =>
                        if x.number = g then { x with failed := x.failed ++ [src], exhausted := true } else x }
                  rw := if f.exhausted then s.rw
                    else filed s.rw ⟨.poolExhausted, w, some g, lane, satInc x.counts.exhausted⟩ })))
  ∧ ∀ (s : State) (g : Nat),
    let oldest := nextNumber s
    (oldest + s.sess.lateness ≤ g → s.openFrame g = (s.closeOne oldest .lateness).openFrame g)
    ∧ (g < oldest + s.sess.lateness →
      (∀ f, Due s f → s.openFrame g = (s.closeFrame f .complete false).openFrame g)
      ∧ ((∀ f, ¬ Due s f) →
        let new : Frame :=
          ⟨g, decide (s.ft.discontinuity = some g), [], some (s.buses.map snapshotOf),
            s.buses.map fun _ => List.replicate s.sess.blockSize 0, none, none, [], [], false, false⟩
        s.openFrame g =
          { s with
            ft :=
              { s.ft with
                frames := (s.ft.frames.takeWhile fun x => decide (x.number ≤ g)) ++ [new]
                  ++ s.ft.frames.dropWhile fun x => decide (x.number ≤ g)
                reference := max s.ft.reference g
                counters := { s.ft.counters with opened := satInc s.ft.counters.opened } }
            buses := s.buses.map fun b => { b with applied := b.target, muteApplied := b.muteTarget }
            sess := { s.sess with windows := s.sess.windows.map fun x => { x with strayArmed := true } } }))

/-- R28, R30, R31, R33, R46, R47, R79, R88, R90, R91, R94: the first completed copy of a track wins the frame with its
CRC and is coded for the archive, or drops the frame from it where the staging store has no room, after which due
frames close; a later copy is only compared, where the track asks for it. -/
def Obligations.FirstCopyWinsAndSecondIsCompared : Prop :=
  (∀ (s : State) (src : Source) (g t : Nat) (samples : List Int) (x : Track) (f : Frame), s.FrameOrder →
    s.tracks[t]? = some x → Names x src → (∀ k y, s.tracks[k]? = some y → Names y src → k = t) →
    s.ft.find g = some f →
    let crc := blockCrc samples
    let role : Role := if x.record.primary = some src then .primary else .alternate
    let coded := codeBlock samples
    let entry := leBytes 1 t ++ [if coded.verbatim then 2 else 1] ++ leBytes 1 coded.order ++ leBytes 1 coded.parameter
      ++ leBytes 2 coded.bitLength ++ leBytes 2 coded.payload.length ++ leBytes 4 crc.toNat ++ [0, 0, 0, 0]
      ++ coded.payload
    let codes := s.aw.archiving = true ∧ t ∈ s.aw.releaseOrder ∧ f.drop = none
    let size := (s.aw.staging.map fun e => e.bytes.length).sum + entry.length
    ((∀ win ∈ f.wins, win.track ≠ t) →
      s.selectBlock src g samples =
        ({ s with
          ft :=
            { s.ft with
              frames := s.ft.frames.map fun y =>
                if y.number = g then
                  { f.accumulate s.sess.blockSize t samples with
                    wins := f.wins ++ [⟨t, role, crc⟩]
                    drop := if codes ∧ 393216 < size then some ⟨t, entry.length⟩ else f.drop }
                else y }
          tracks := s.tracks.set t
            { x with
              alternateWins := if role = .alternate then satInc x.alternateWins else x.alternateWins
              status := if x.status = .idle then .idle else .active }
          aw :=
            if ¬ codes then s.aw
            else if size ≤ 393216 then
              { s.aw with
                staging := s.aw.staging ++ [⟨g, t, entry⟩]
                counters :=
                  { s.aw.counters with
                    coded := if coded.verbatim then s.aw.counters.coded else satInc s.aw.counters.coded
                    verbatim := if coded.verbatim then satInc s.aw.counters.verbatim else s.aw.counters.verbatim
                    escapes := min (s.aw.counters.escapes + coded.escapes) 4294967295
                    stagingPeak := max s.aw.counters.stagingPeak size } }
            else
              { s.aw with
                staging := s.aw.staging.filter fun e => e.frame != g
                counters := { s.aw.counters with stagingDrops := satInc s.aw.counters.stagingDrops } }
          rw := if x.status = .lost then
              filed s.rw ⟨.trackBack, t, some g, if role = .primary then 1 else 2, x.run⟩
            else s.rw } : State).closeDue)
    ∧ (∀ win, f.winner t = some win →
      s.selectBlock src g samples =
        if x.record.compare = false then s
        else if crc = win.crc then
          { s with tracks := s.tracks.set t { x with compared := satInc x.compared } }
        else
          { s with
            tracks := s.tracks.set t
              { x with compared := satInc x.compared, disagreements := satInc x.disagreements }
            ft :=
              { s.ft with frames := s.ft.frames.map fun y => if y.number = g then { y with disagreed := true } else y }
            rw := if f.disagreed then s.rw
              else filed s.rw ⟨.sourceDisagree, t, some g, win.crc.toNat, crc.toNat⟩ }))
  ∧ ∀ s : State, (∀ f, Due s f → s.closeDue = (s.closeFrame f .complete false).closeDue)
    ∧ ((∀ f, ¬ Due s f) → s.closeDue = s)

/-- R21, R22, R34, R35, R43, R44, R48, R52, R54: what a close leaves of a track and of a window, loaded or not; the
records of that evaluation; and the whole close of a frame or of a number without one, by its steps. That records of
several windows, or of several tracks, are filed in number order is the model's choice (assumption 25); takes that the
manual does not order are left to the free value of assumption 3. -/
def Obligations.StatusIsEvaluatedAtAClose : Prop :=
  (∀ (s : State) (f : Frame) (t : Nat) (x : Track), s.tracks[t]? = some x →
    let after := s.evaluateClose f
    let run := min (x.run + 1) 255
    (x.record.enabled = false → after.tracks[t]? = some x)
    ∧ (∀ win, x.record.enabled = true → f.winner t = some win →
      after.tracks[t]? = some { x with run := 0, last := some win.role })
    ∧ (x.record.enabled = true → f.winner t = none →
      after.tracks[t]? = some
        { x with
          absentFrames := satInc x.absentFrames, run := run, last := none
          status := if x.status = .active ∧ x.record.lossLimit ≤ run ∧ ∀ h ∈ s.ft.frames, h.winner t = none
            then .lost else x.status }))
  ∧ (∀ (s : State) (f : Frame) (w : Nat) (y : Window), s.sess.windows[w]? = some y →
    let after := s.evaluateClose f
    let missed := min (y.missed + 1) 255
    (y.record = none → after.sess.windows[w]? = some y)
    ∧ (∀ rec, y.record = some rec → (∃ lane, ∃ z ∈ s.tracks, Names z ⟨w, lane⟩) →
      after.sess.windows[w]? = some
        (if ∃ p ∈ f.completed, p.window = w then
          { y with missed := 0, liveness := .live, changed := y.changed || y.liveness == .lost }
        else if y.liveness = .live ∧ rec.liveLimit ≤ missed then
          { y with missed := missed, liveness := .lost, changed := true }
        else { y with missed := missed }))
    ∧ ((¬ ∃ lane, ∃ z ∈ s.tracks, Names z ⟨w, lane⟩) → after.sess.windows[w]? = some y))
  ∧ (∀ (s : State) (f : Frame),
    let after := s.evaluateClose f
    let isSource := fun (w : Nat) => s.tracks.any fun z => z.record.enabled
      && (z.record.primary.any (fun p => p.window == w) || z.record.alternate.any fun p => p.window == w)
    let windowRecords := s.sess.windows.zipIdx.flatMap fun (y, w) => y.record.toList.flatMap fun rec =>
      if isSource w = false then []
      else if f.completed.any fun p => p.window == w then
        (if y.liveness = .lost then [(⟨.windowBack, w, some f.number, 0, 0⟩ : Record)] else [])
      else if y.liveness = .live ∧ rec.liveLimit ≤ min (y.missed + 1) 255 then
        [⟨.windowLost, w, some f.number, rec.liveLimit, 0⟩]
      else []
    let trackRecords := s.tracks.zipIdx.flatMap fun (x, t) =>
      if x.record.enabled = true ∧ f.winner t = none ∧ x.status = .active ∧ x.record.lossLimit ≤ min (x.run + 1) 255
          ∧ ∀ h ∈ s.ft.frames, h.winner t = none then
        [(⟨.trackLost, t, some f.number, x.record.lossLimit, satInc x.absentFrames⟩ : Record)]
      else []
    after.tracks.length = s.tracks.length ∧ after.sess.windows.length = s.sess.windows.length
    ∧ after =
      { s with
        sess := { s.sess with windows := after.sess.windows }
        tracks := after.tracks
        rw := filedAll s.rw (inEitherOrder s.freeCount windowRecords trackRecords)
        freeCount := s.freeCount + 1 })
  ∧ ∀ (s : State) (f : Frame) (cause : Cause) (empty : Bool),
    let left : State :=
      { s with
        ft := { s.ft with frames := s.ft.frames.filter fun x => x.number != f.number, newest := some f.number }
        buffers := s.buffers.filter fun b => b.frame != f.number
        sess :=
          { s.sess with
            windows := s.sess.windows.zipIdx.map fun (x, w) =>
              { x with
                lateArmed := true
                counts :=
                  { x.counts with
                    incomplete := min (x.counts.incomplete
                      + (s.buffers.filter fun b => b.frame == f.number && b.window == w).length) 4294967295 } } } }
    let judged := left.evaluateClose f
    let absent := (s.tracks.zipIdx.filter fun (x, t) => x.record.enabled && (f.winner t).isNone).length
    let closed : Frame := { f with absent := some absent }
    let info : FrameInfo := ⟨s.sess.serial, s.sess.blockSize, (s.sess.record.map fun r => r.rate.code).getD 0⟩
    let mixed := finalise s.sess.blockSize s.buses closed
    let archived := s.aw.takeFrame info closed (some f.number)
    let streamed := s.sw.takeFrame info closed mixed.final
    let count := s.ft.counters
    s.closeFrame f cause empty =
      { judged with
        buses := mixed.buses
        aw := archived.1
        sw := streamed.1
        rw := filedAll judged.rw (inEitherOrder judged.freeCount mixed.records archived.2 ++ streamed.2)
        freeCount := judged.freeCount + 1
        ft :=
          { judged.ft with
            discontinuity := if s.ft.discontinuity = some f.number then none else s.ft.discontinuity
            counters :=
              { count with
                closed := satInc count.closed
                empty := if empty then satInc count.empty else count.empty
                complete := if cause = .complete then satInc count.complete else count.complete
                lateness := if cause = .lateness then satInc count.lateness else count.lateness
                stall := if cause = .stall then satInc count.stall else count.stall
                stop := if cause = .stop then satInc count.stop else count.stop } } }
    ∧ ∀ g, (s.ft.find g = some f → s.closeOne g cause = s.closeFrame f cause false)
      ∧ (s.ft.find g = none →
        s.closeOne g cause = s.closeFrame
          ⟨g, decide (s.ft.discontinuity = some g), [], none, [], none, none, [], [], false, false⟩ cause true)

/-- R10, R43, R50: the expiry of the stall timer closes every held frame and the numbers between, from the oldest on,
and unanchors every loaded window; that an unloaded window number keeps its anchored flag (assumption 24), and that
outside RUNNING, where the timer does not run, the row has no effect (assumption 2), is the model's choice. -/
def Obligations.StallClosesEveryFrame : Prop :=
  (∀ s : State, Settled s → s.FrameOrder →
    (s.sess.state ≠ .running → exec .stallTimerExpiry s = .next (quiet s))
    ∧ (s.sess.state = .running →
      ∃ t, exec .stallTimerExpiry s = .next t ∧ t.sess.state = .stalled ∧ t.sess.timer = none
        ∧ t.ft.frames = [] ∧ t.ft.newest = (s.ft.frames.getLast?.map Frame.number).or s.ft.newest
        ∧ t.ft.reference = s.ft.reference ∧ (∀ x ∈ t.sess.windows, x.record ≠ none → x.anchored = false)
        ∧ t.sess.record = s.sess.record ∧ t.sess.serial = s.sess.serial ∧ t.sess.resume = s.sess.resume
        ∧ t.cmd = s.cmd ∧ t.path = s.path ∧ t.straps = s.straps ∧ t.ports = ⟨none, none, false⟩ ∧ t.report = none
        ∧ t.pending = s.pending)
    ∧ (s.sess.state = .running →
      let stalling : State := { quiet s with sess := { s.sess with state := .stalled, timer := none } }
      let c := stalling.closeAll .stall
      let closed := match s.ft.frames.getLast? with
        | some f => f.number + 1 - nextNumber s
        | none => 0
      exec .stallTimerExpiry s = .next
        { c with
          sess :=
            { c.sess with
              windows := c.sess.windows.map fun x => if x.record = none then x else { x with anchored := false } }
          rw := filed c.rw ⟨.stall, 0, c.ft.newest, closed, fullStall s⟩ }))
  ∧ ∀ (s : State) (cause : Cause), (s.ft.frames.Pairwise fun a b => a.number < b.number) →
    (∀ f ∈ s.ft.frames, nextNumber s ≤ f.number) →
    (s.ft.frames = [] → s.closeAll cause = s)
    ∧ (s.ft.frames ≠ [] → s.closeAll cause = (s.closeOne (nextNumber s) cause).closeAll cause)

/-! ### Owed events and the producers' lines -/

/-- R12, R13, R37, R109: DRAINING ends when the session's stream and archive frames have left the part, and Stop is
answered; before that, and in any other state, the row has no effect (the model's choice, assumption 5). That the
SESSION_STATE record carries no frame number is the model's reading (assumption 16). -/
def Obligations.DrainingEndsWhenAllHasLeft : Prop :=
  ∀ s : State,
    (s.sess.state = .draining → Drained s → s.cmd.working ≠ none →
      exec .drainingEnd s = .next
        (done
          { quiet s with
            sess := { s.sess with state := .idle, timer := none }
            tracks := s.tracks.map fun x => { x with status := .idle }
            aw := { s.aw with archiving := false, full := false, closing := none }
            rw := filed s.rw ⟨.sessionState, 0, none, 0, 4⟩ }
          []))
    ∧ (s.sess.state ≠ .draining ∨ ¬ Drained s → exec .drainingEnd s = .next (quiet s))

/-- R99, R153: at the report of its last final header line a command ends with a COMMAND_DONE record, and at the report
of its CLOSED directory record a segment settles with a SEGMENT_CLOSED record. With no such report owed the rows have no
effect (assumption 5). -/
def Obligations.EndedCommandAndSettledSegmentAreRecorded : Prop :=
  ∀ s : State,
    (∀ w, s.cmd.working = some w → s.report = some .commandEnd →
      exec .commandEnd s = .next
        { quiet s with
          report := none
          cmd := { s.cmd with working := none }
          rw := filed s.rw ⟨.commandDone, w.function.toNat, s.ft.newest, w.flags.toNat, w.reason.code⟩ })
    ∧ (s.report ≠ some .commandEnd → exec .commandEnd s = .next (quiet s))
    ∧ (∀ (n : Nat) (x : Segment), s.report = some (.segmentSettled (n + 1)) → s.aw.segments[n]? = some x →
      exec .segmentSettled s = .next
        { quiet s with
          report := none
          aw :=
            { s.aw with
              segments := s.aw.segments.set n { x with settled := true }
              closing := if s.aw.closing = some (n + 1) then none else s.aw.closing }
          rw := filed s.rw ⟨.segmentClosed, n + 1, some x.last, x.count, x.used⟩ })
    ∧ ((∀ n, s.report ≠ some (.segmentSettled n)) → exec .segmentSettled s = .next (quiet s))

/-- R117 to R122, R125, R126, R176: the take of a closed frame by the Stream Writer, which builds a frame for each
enabled stream and fills, overwrites, drops or is late for the slot at its write position; and at the report of its
header line a FILLING slot becomes FILLED and the write position advances. With no such report owed the row has no effect (the
model's choice, assumption 5). -/
def Obligations.FilledSlotAdvancesTheRing : Prop :=
  (∀ s : State,
    (∀ (k slot g : Nat) (x : Stream) (b : StreamBody) (q : Slot), s.report = some (.slotFilled k slot g) →
      s.sw.streams[k]? = some x → x.record = some b → b.enabled = 1 → x.slots[slot]? = some q → q.state = .filling →
      let slots := x.slots.set slot { q with state := .filled }
      let filledSlots := (slots.filter fun y => y.state == .filled).length
      let due := x.watermarkArmed = true ∧ b.watermark.toNat ≤ filledSlots
      exec .slotFilled s = .next
        { quiet s with
          report := none
          sw :=
            { s.sw with
              streams := s.sw.streams.set k
                { x with
                  slots := slots
                  writePosition := if x.writePosition + 1 < b.slotCount.toNat then x.writePosition + 1 else 0
                  watermarkArmed := if due then false else x.watermarkArmed } }
          rw := if due then filed s.rw ⟨.streamWatermark, k, some g, filledSlots, b.watermark.toNat⟩ else s.rw })
    ∧ ((∀ k slot g, s.report ≠ some (.slotFilled k slot g)) → exec .slotFilled s = .next (quiet s)))
  ∧ ∀ (v : StreamWriter) (info : FrameInfo) (f : Frame) (final : List FinalBus),
    let absent := f.absent.getD 0
    let filledCount := fun (x : Stream) => (x.slots.filter fun q => q.state == .filled).length
    let buses := fun (b : StreamBody) => (List.range b.busCount.toNat).map fun i => (b.buses.toNat / 256 ^ i) % 256
    let carried := fun (b : StreamBody) => (buses b).filterMap fun k => final[k]?
    let built := fun (x : Stream) (b : StreamBody) =>
      streamPayload b ((List.range info.blockSize).flatMap fun n => (buses b).map fun k =>
        (final[k]?.map fun y => (y.values.getD n 0, y.gains.getD n 0)).getD (0, 0)) x.generator
    let payloadLength := fun (b : StreamBody) => info.blockSize * b.busCount.toNat * (if b.width = 0 then 2 else 4)
    let header := fun (k : Nat) (b : StreamBody) =>
      let bytes := [0x5A, 0x4B, 0x53, 0x46] ++ leBytes 1 k ++ [b.width, b.busCount]
        ++ leBytes 1 ((if f.discontinuity then 1 else 0) + (if absent = 0 then 0 else 2)
          + (if ∃ y ∈ carried b, y.endGain = 0 then 4 else 0) + (if ∃ y ∈ carried b, y.saturated = true then 8 else 0))
        ++ leBytes 4 info.serial ++ leBytes 4 f.number ++ leBytes 2 info.blockSize ++ leBytes 1 info.rateCode ++ [0]
        ++ leBytes 2 absent ++ [0, 0] ++ leBytes 4 (payloadLength b)
        ++ ((List.range 8).map fun i => BitVec.ofNat 8 ((buses b).getD i 0))
      (List.range 64).map fun i => bytes.getD i 0
    let takes := fun (x : Stream) (b : StreamBody) =>
      let filling := x.slots.set x.writePosition ⟨.filling, [], decide (absent ≠ 0)⟩
      let y : Stream := match slotRule x b with
        | .fill => { x with slots := filling, filled := satInc x.filled }
        | .overwrite =>
          { x with
            slots := filling
            filled := satInc x.filled
            overwritten := satInc x.overwritten
            watermarkArmed := x.watermarkArmed || decide (filledCount { x with slots := filling } < b.watermark.toNat) }
        | .drop => { x with dropped := satInc x.dropped }
        | .late => { x with late := satInc x.late }
      { y with generator := (built x b).2 }
    let age := fun (y : Stream) => if filledCount y = 0 then 0 else min (y.staleCount + 1) 1000
    let stale := fun (y : Stream) (b : StreamBody) =>
      decide (filledCount y ≠ 0 ∧ b.staleLimit.toNat ≤ age y) && y.staleArmed
    let slotRecord := fun (k : Nat) (x : Stream) (b : StreamBody) =>
      match slotRule x b with
      | .fill => []
      | .overwrite => [(⟨.streamOverwrite, k, some f.number, x.writePosition,
          (x.slots.getD x.writePosition ⟨.free, [], false⟩).read.length⟩ : Record)]
      | .drop => [⟨.streamDrop, k, some f.number, x.writePosition, satInc x.dropped⟩]
      | .late => [⟨.streamLate, k, some f.number, x.writePosition, satInc x.late⟩]
    let first := fun (k : Nat) (x : Stream) (b : StreamBody) =>
      (v.streams.take k).all fun z => (enabledRecord z).all fun e => slotRule z e != slotRule x b
    v.takeFrame info f final =
      (⟨v.streams.map fun x => match enabledRecord x with
          | some b =>
            let y := takes x b
            { y with staleCount := age y, staleArmed := y.staleArmed && !stale y b }
          | none => x,
        v.out ++ v.streams.zipIdx.flatMap fun (x, k) => (enabledRecord x).toList.flatMap fun b =>
          if slotRule x b = .fill ∨ slotRule x b = .overwrite then
            let payload := (built x b).1
            [⟨k, x.writePosition, f.number, b.base.toNat + x.writePosition * (64 + payloadLength b), 1,
              (List.range ((payload.length + 63) / 64)).map fun j =>
                (List.range 64).map fun i => payload.getD (64 * j + i) 0,
              header k b⟩]
          else []⟩,
        v.streams.zipIdx.flatMap fun (x, k) => (enabledRecord x).toList.flatMap fun b =>
          (if first k x b then slotRecord k x b else [])
            ++ if stale (takes x b) b then
              [⟨.streamStale, k, some f.number, filledCount (takes x b), b.staleLimit.toNat⟩]
            else [])

/-- R122, R137, R153: one line of the Command Unit's or the Stream Writer's list of work enters its queue while that
has room; the row enqueues one line (the model's choice, assumption 7). -/
def Obligations.ResponseAndStreamLinesAreEnqueued : Prop :=
  ∀ s : State, Settled s →
    let slot := s.straps.baseSel.toNat * 16777216 + 1024
    (s.path.queues.response.length < 16 →
      (∀ i data rest, s.cmd.out = .line i data :: rest →
        exec .responseLineEnqueue s = .next
          { quiet s with
            path := enqueued s.path .response (slot + 64 * i) ⟨data, fullMask⟩ .responseLine
            cmd := { s.cmd with out := rest } })
      ∧ ∀ rest w, s.cmd.out = .finalHeader :: rest → s.cmd.working = some w →
        exec .responseLineEnqueue s = .next
          { quiet s with
            path := enqueued s.path .response slot ⟨w.finalHeader, fullMask⟩ .finalHeader
            cmd := { s.cmd with out := rest, working := some { w with finalEnqueued := true } } })
    ∧ (16 ≤ s.path.queues.response.length ∨ s.cmd.out = [] → exec .responseLineEnqueue s = .next (quiet s))
    ∧ (s.path.queues.stream.length < 32 → ∀ o rest, s.sw.out = o :: rest →
      (∀ data more, o.payload = data :: more →
        exec .streamLineEnqueue s = .next
          { quiet s with
            path := enqueued s.path .stream (o.addr + 64 * o.next) ⟨data, fullMask⟩ .streamPayload
            sw := { s.sw with out := { o with next := o.next + 1, payload := more } :: rest } })
      ∧ (o.payload = [] →
        exec .streamLineEnqueue s = .next
          { quiet s with
            path := enqueued s.path .stream o.addr ⟨o.header, fullMask⟩ (.streamHeader o.stream o.slot o.frame)
            sw := { s.sw with out := rest } }))
    ∧ (32 ≤ s.path.queues.stream.length ∨ s.sw.out = [] → exec .streamLineEnqueue s = .next (quiet s))

/-- R88, R89, R92, R99, R102 to R105, R108, R112, R137, R174: the take of a closed frame by the Archive Writer, which
gives up a dropped one, and else assembles and places it in the OPEN segment, rolls to the lowest FREE one, or drops it
for want of one; and one line of its output list enters the Archive queue while that has room: a directory line as
appended, a line of an archive frame built from its header, its entries and padding, after which the entries whose last
byte has gone leave the staging store. One line a row is the model's choice (assumption 7); that archive and directory
lines enable every byte, and that the directory update serial saturates, is the model's reading (assumption 17). -/
def Obligations.ArchiveLinesAreEnqueued : Prop :=
  (∀ s : State, Settled s →
    (s.path.queues.archive.length < 64 →
      (∀ addr data note rest, s.aw.out = .directory addr data note :: rest →
        exec .archiveLineEnqueue s = .next
          { quiet s with
            path := enqueued s.path .archive addr ⟨data, fullMask⟩ note
            aw := { s.aw with out := rest } })
      ∧ ∀ i rest, s.aw.out = .frame i :: rest →
        let bytes := i.header ++ i.parts.flatMap fun p => match p with
          | .staged t n =>
            let entry :=
              ((s.aw.staging.find? fun e => e.frame == i.frame && e.track == t).map StagedEntry.bytes).getD []
            (List.range n).map fun k => entry.getD k 0
          | .absent t => leBytes 1 t ++ [3] ++ List.replicate 14 0
        let line := (List.range 64).map fun j => bytes.getD (i.offset + j) 0
        let gone := fun (e : StagedEntry) =>
          decide (e.frame = i.frame ∧ ∃ x ∈ stagedEnds 32 i.parts, x.1 = e.track ∧ x.2 ≤ i.offset + 64)
        let last := i.length ≤ i.offset + 64
        exec .archiveLineEnqueue s = .next
          { quiet s with
            path := enqueued s.path .archive (i.addr + i.offset) ⟨line, fullMask⟩
              (if last then .frameEnd i.segment i.frame i.count i.used else .frameLine)
            aw :=
              { s.aw with
                staging := s.aw.staging.filter fun e => !gone e
                out := if last then rest else .frame { i with offset := i.offset + 64 } :: rest } })
    ∧ (64 ≤ s.path.queues.archive.length ∨ s.aw.out = [] → exec .archiveLineEnqueue s = .next (quiet s)))
  ∧ ∀ (v : ArchiveWriter) (info : FrameInfo) (f : Frame) (newest : Option Nat),
    (v.archiving = false → v.takeFrame info f newest = (v, []))
    ∧ (∀ mark, v.archiving = true → f.drop = some mark →
      v.takeFrame info f newest =
        ({ v with pendingDiscontinuity := true },
          [⟨.archiveDrop, mark.track, some f.number, mark.size, v.counters.stagingDrops⟩]))
    ∧ ∀ a, v.archiving = true → f.drop = none → v.area = some a →
      let freeIn := fun (y : ArchiveWriter) => (y.segments.filter fun x => x.state == .free).length
      let parts := v.releaseOrder.map fun t =>
        if (f.winner t).isSome then
          EntryRef.staged t
            (((v.staging.find? fun e => e.frame == f.number && e.track == t).map fun e => e.bytes.length).getD 0)
        else EntryRef.absent t
      let entries := (parts.map fun p => match p with
        | .staged _ n => n
        | .absent _ => 16).sum
      let length := (32 + entries + 63) / 64 * 64
      let header := [0x5A, 0x4B, 0x41, 0x46] ++ leBytes 4 f.number ++ leBytes 4 info.serial ++ leBytes 2 info.blockSize
        ++ leBytes 1 info.rateCode ++ [if f.discontinuity = true ∨ v.pendingDiscontinuity = true then 1 else 0]
        ++ leBytes 2 v.releaseOrder.length ++ leBytes 2 (f.absent.getD 0) ++ leBytes 4 length ++ List.replicate 8 0
      let placed := fun (y : ArchiveWriter) (n : Nat) (x : Segment) =>
        ({ y with
          segments := y.segments.set n { x with last := f.number, count := x.count + 1, used := x.used + length }
          out := y.out ++ [.frame
            ⟨f.number, n + 1, a.base + (n + 1) * (a.sizeMiB * 1048576) + x.used, length, 0, header, parts, x.count + 1,
              x.used + length⟩]
          pendingDiscontinuity := false
          counters :=
            { y.counters with
              placed := satInc y.counters.placed
              bytesPlaced := min (y.counters.bytesPlaced + length) 4294967295 } } : ArchiveWriter)
      let record := fun (y : ArchiveWriter) (n : Nat) (x : Segment) =>
        ({ y with
          segments := y.segments.set n { x with updateSerial := satInc y.updateSerial }
          updateSerial := satInc y.updateSerial
          out := y.out ++ [.directory (a.base + 64 * (n + 1)) (directoryRecord (n + 1) x (satInc y.updateSerial))
            (.directoryRecord (n + 1) x.state)] } : ArchiveWriter)
      let fresh := fun (y : ArchiveWriter) =>
        match y.segments.findIdx? fun x => x.state == .free with
        | some n =>
          let first : Segment :=
            { y.segments.getD n Segment.fresh with
              state := .opened, settled := true, cause := .none, serial := info.serial, first := f.number, last := 0
              count := 0, used := 0, forwardedLast := 0, forwardedCount := 0, forwardedUsed := 0 }
          let z := record y n first
          let free := freeIn z
          (placed
              { z with
                full := false
                warning := if y.warning then decide (free < a.high) else decide (free ≤ a.low)
                counters := { y.counters with opened := satInc y.counters.opened } }
              n { first with updateSerial := satInc y.updateSerial },
            if y.warning = true ∧ a.high ≤ free then [(⟨.spaceOk, a.count, newest, free, a.high⟩ : Record)]
            else if y.warning = false ∧ free ≤ a.low then [⟨.spaceLow, a.count, newest, free, a.low⟩]
            else [])
        | none =>
          ({ y with
            staging := y.staging.filter fun e => e.frame != f.number
            full := true
            pendingDiscontinuity := true
            counters := { y.counters with fullDrops := satInc y.counters.fullDrops } },
            if y.full then [] else [⟨.archiveFull, a.count, some f.number, 0, satInc y.counters.fullDrops⟩])
      ((∀ x ∈ v.segments, x.state ≠ .opened) → v.takeFrame info f newest = fresh v)
      ∧ ∀ n x, v.segments[n]? = some x → x.state = .opened →
        (∀ m y, v.segments[m]? = some y → y.state = .opened → m = n) →
        (x.used + length ≤ a.sizeMiB * 1048576 → v.takeFrame info f newest = (placed v n x, []))
        ∧ (a.sizeMiB * 1048576 < x.used + length →
          let z := record v n { x with state := .closed, settled := false, cause := .rolled }
          v.takeFrame info f newest =
            fresh { z with counters := { z.counters with closed := satInc z.counters.closed } })

/-- R166, R177: the head record takes the serial and the position, and its 32 bytes go out in their half of a line. That
the other half, which the mask does not enable, carries zeros is the model's choice (assumption 35), and so is that the
row writes one record (assumption 7). -/
def Obligations.HeadRecordIsWrittenToTheRing : Prop :=
  ∀ s : State, Settled s →
    (∀ c f rest, s.rw.settings = some c → s.rw.queue = f :: rest → s.path.queues.report.length < 8 →
      let bytes := leBytes 4 s.rw.serial ++ leBytes 1 f.record.kind.code ++ leBytes 1 f.record.kind.classCode
        ++ leBytes 2 f.record.subject ++ leBytes 4 (f.record.frame.getD 0xFFFFFFFF) ++ leBytes 4 f.record.value
        ++ leBytes 4 f.record.second ++ List.replicate 12 0
      let half := List.replicate 32 (0 : Byte)
      exec .reportRecordWrite s = .next
        { quiet s with
          path := enqueued s.path .report ((c.base + 32 * s.rw.index) / 64 * 64)
            (if s.rw.index % 2 = 0 then ⟨bytes ++ half, 0x00000000FFFFFFFF⟩ else ⟨half ++ bytes, 0xFFFFFFFF00000000⟩)
            (.record f.pulse)
          rw :=
            { s.rw with
              queue := rest
              index := if s.rw.index + 1 < c.count then s.rw.index + 1 else 0
              serial := if s.rw.serial < 4294967295 then s.rw.serial + 1 else s.rw.serial } })
    ∧ (s.rw.settings = none ∨ s.rw.queue = [] ∨ 8 ≤ s.path.queues.report.length →
      exec .reportRecordWrite s = .next (quiet s))

/-- R116, R123, R126: a read of a ring line marks a FILLED slot's line and frees the slot with its last one; a read of
another slot is counted; every read restarts the stale notice. That marks made under another N stay and are judged by the
present line count is the model's choice (assumption 26), and that N is 256 without a session record is its reading
(assumption 14). -/
def Obligations.RingReadMarksItsLine : Prop :=
  ∀ (s : State) (r : Passing) (rest : List Passing) (k slot line : Nat) (x : Stream) (b : StreamBody), Settled s →
    s.straps.passOnly = false → s.path.forward = r :: rest → GrantsPassing s.path → r.write = none →
    s.streamsAt r.addr = [k] → s.sw.streams[k]? = some x → x.record = some b → s.sess.blockSize % 64 = 0 →
    let size := 64 + s.sess.blockSize * b.busCount.toNat * (if b.width = 0 then 2 else 4)
    let old := x.slots.getD slot ⟨.free, [], false⟩
    let marks := if line ∈ old.read then old.read else old.read ++ [line]
    let freed := x.slots.set slot ⟨.free, [], false⟩
    64 * line < size → r.addr = b.base.toNat + slot * size + 64 * line →
    exec .passingRequestTake s = .next
      { forwarded s r with
        sw :=
          { s.sw with
            streams := s.sw.streams.set k
              (if old.state ≠ .filled then
                { x with staleCount := 0, staleArmed := true, unmarked := satInc x.unmarked }
              else if ∀ j < size / 64, j ∈ marks then
                { x with
                  staleCount := 0, staleArmed := true, slots := freed, freed := satInc x.freed
                  watermarkArmed := x.watermarkArmed ||
                    decide ((freed.filter fun y => y.state == .filled).length < b.watermark.toNat) }
              else
                { x with
                  staleCount := 0, staleArmed := true, slots := x.slots.set slot { old with read := marks } }) } }

/-! ### The arithmetic (Sections 4 and 5) -/

/-- R65, R66: a ramped coefficient follows its formula, lies between the frame's start and end values and reaches the
end value; the products of a winning block use it for the input's coefficients in the snapshot, and the finalised bus for
the snapshot's mute gains. -/
def Obligations.RampStaysBetweenItsEnds : Prop :=
  (∀ (c0 c1 : Int) (n blockSize : Nat), n < blockSize →
    ramp c0 c1 blockSize n = c0 + Int.tdiv ((c1 - c0) * (n + 1)) blockSize
    ∧ min c0 c1 ≤ ramp c0 c1 blockSize n ∧ ramp c0 c1 blockSize n ≤ max c0 c1
    ∧ (n = blockSize - 1 → ramp c0 c1 blockSize n = c1))
  ∧ ∀ (f : Frame) (snaps : List BusSnapshot) (p : BusSnapshot) (blockSize t b : Nat) (samples acc : List Int),
    f.snapshot = some snaps → snaps[b]? = some p → f.accumulators[b]? = some acc → acc.length = blockSize →
    let g := f.accumulate blockSize t samples
    g = { f with accumulators := g.accumulators }
    ∧ (∀ i, (p.inputs.find? fun i => i.track == t) = some i →
      g.accumulators[b]? = some (acc.zipIdx.map fun (a, n) =>
        a + ramp i.c0 i.c1 blockSize n * samples.getD n 0))
    ∧ ((p.inputs.find? fun i => i.track == t) = none → g.accumulators[b]? = some acc)
    ∧ (finalBus blockSize p acc).gains = (List.range blockSize).map fun n => ramp p.gain0 p.gain1 blockSize n

/-- R68 to R77: rounding and saturation of a bus value, the mute scaling, the two stream widths with their dither draws,
and the finalisation of a closed frame: its buses' values, gains and over flags, their meters and BUS_OVER records. -/
def Obligations.SamplesAreRoundedAndSaturated : Prop :=
  (∀ (a y z d : Int) (m : Nat) (b : StreamBody) (g : BitVec 32), m ≤ 16384 →
    (busValue a = max (-8388608) (min 8388607 ((a + 8192) / 16384))
      ∧ (isOver a = true ↔ (a + 8192) / 16384 < -8388608 ∨ 8388607 < (a + 8192) / 16384))
    ∧ (muteScale y m = (y * m + 8192) / 16384 ∧ min 0 y ≤ muteScale y m ∧ muteScale y m ≤ max 0 y
      ∧ muteScale y 16384 = y ∧ muteScale y 0 = 0)
    ∧ (sample16 z m d = if m = 0 then 0 else max (-32768) (min 32767 ((z + d + 128) / 256)))
    ∧ (b.width ≠ 0 → streamSample b z m g = (leBytes 4 (z % 2 ^ 32).toNat, g))
    ∧ (b.width = 0 → b.dither = 0 ∨ m = 0 →
      streamSample b z m g = (leBytes 2 (sample16 z m 0 % 2 ^ 16).toNat, g))
    ∧ (b.width = 0 → b.dither = 1 → m ≠ 0 →
      let move := fun (x : BitVec 32) => if x.getLsbD 0 then (x >>> 1) ^^^ 0x80200003#32 else x >>> 1
      let draw := fun (x : BitVec 32) => move (move (move (move (move (move (move (move x)))))))
      let first := draw g
      let second := draw first
      streamSample b z m g =
        (leBytes 2 (sample16 z m ((first.toNat % 256 : Nat) - (second.toNat % 256 : Nat)) % 2 ^ 16).toNat, second))
    ∧ streamPayload b [] g = ([], g)
    ∧ ∀ more, streamPayload b ((z, (m : Int)) :: more) g =
      ((streamSample b z m g).1 ++ (streamPayload b more (streamSample b z m g).2).1,
        (streamPayload b more (streamSample b z m g).2).2))
  ∧ ∀ (blockSize : Nat) (buses : List Bus) (f : Frame),
    let r := finalise blockSize buses f
    (f.snapshot = none →
      r = ⟨buses, buses.map fun b =>
        let gain : Int := if b.muteApplied then 0 else 16384
        ⟨List.replicate blockSize 0, List.replicate blockSize gain, gain, false⟩, []⟩)
    ∧ ∀ snaps, f.snapshot = some snaps → snaps.length = buses.length → f.accumulators.length = buses.length →
      (∀ acc ∈ f.accumulators, acc.length = blockSize) →
      let overs := fun (n : Nat) => ((f.accumulators.getD n []).filter isOver).length
      let overCount := fun (b : Bus) (n : Nat) => min (b.overCount + overs n) 4294967295
      r.buses.length = buses.length ∧ r.final.length = buses.length
      ∧ (∀ (n : Nat) (b : Bus) (p : BusSnapshot) (acc : List Int), buses[n]? = some b → snaps[n]? = some p →
        f.accumulators[n]? = some acc →
        r.buses[n]? = some
          { b with
            peak := (acc.map fun a => (busValue a).natAbs).foldl max b.peak
            overCount := overCount b n
            overFrames := if overs n = 0 then b.overFrames else satInc b.overFrames }
        ∧ r.final[n]? = some
          ⟨acc.zipIdx.map fun (a, i) => muteScale (busValue a) (ramp p.gain0 p.gain1 blockSize i),
            (List.range blockSize).map fun i => ramp p.gain0 p.gain1 blockSize i, p.gain1, decide (overs n ≠ 0)⟩)
      ∧ r.records = buses.zipIdx.flatMap fun (b, n) =>
        if overs n = 0 then [] else [⟨.busOver, n, some f.number, overs n, overCount b n⟩]

/-- R66, R67: a frame's accumulators do not depend on the order in which its blocks completed. -/
def Obligations.AccumulationIgnoresArrivalOrder : Prop :=
  ∀ (f : Frame) (blockSize : Nat) (blocks other : List (Nat × List Int)), blocks.Perm other →
    blocks.foldl (fun x b => x.accumulate blockSize b.1 b.2) f
      = other.foldl (fun x b => x.accumulate blockSize b.1 b.2) f

/-- R80, R82: the residuals of each order, their bounds, and their mapping, which is undone by the rule of R82. -/
def Obligations.ResidualsAreBoundedAndMapped : Prop :=
  ∀ (xs : List Int) (p n : Nat), AreSamples xs → p ≤ 3 → p + n < xs.length →
    let x := fun k => xs.getD (n + p - k) 0
    let e := (residualsFrom p p xs).getD n 0
    (residualsFrom p p xs).length = xs.length - p
    ∧ (p = 0 → e = x 0 ∧ e.natAbs ≤ 2 ^ 23)
    ∧ (p = 1 → e = x 0 - x 1 ∧ e.natAbs ≤ 2 ^ 24 - 1)
    ∧ (p = 2 → e = x 0 - 2 * x 1 + x 2 ∧ e.natAbs ≤ 2 ^ 25 - 2)
    ∧ (p = 3 → e = x 0 - 3 * x 1 + 3 * x 2 - x 3 ∧ e.natAbs ≤ 2 ^ 26 - 4)
    ∧ (mapResidual e : Int) = (if 0 ≤ e then 2 * e else -2 * e - 1) ∧ mapResidual e < 2 ^ 27
    ∧ unmapped (mapResidual e) = e

/-- R81, R83: the order with the least cost, the lowest of equals; the largest Rice parameter that R83 allows. -/
def Obligations.CoderChoosesOrderAndParameter : Prop :=
  ∀ (xs : List Int) (m u : Nat),
    let cost := fun p => (((residualsFrom p 3 xs).map Int.natAbs).sum)
    (chooseOrder xs ≤ 3 ∧ (∀ p ≤ 3, cost (chooseOrder xs) ≤ cost p)
      ∧ ∀ p < chooseOrder xs, cost (chooseOrder xs) < cost p)
    ∧ (u < m → riceParameter m u = 0)
    ∧ (m ≤ u → riceParameter m u ≤ 26 ∧ m * 2 ^ riceParameter m u ≤ u
      ∧ ∀ k ≤ 26, m * 2 ^ k ≤ u → k ≤ riceParameter m u)

/-- R80 to R87 and Section 5.10: a consumer that reads an entry as Section 5.10 says rebuilds the block's samples, and
no CODED entry is longer than 24 bits a sample. -/
def Obligations.ArchivedBlockIsRebuiltExactly : Prop :=
  ∀ xs : List Int, (xs.length = 64 ∨ xs.length = 128 ∨ xs.length = 256) → AreSamples xs →
    let c := codeBlock xs
    (c.verbatim = false →
      readCoded c.order c.parameter xs.length c.payload = xs ∧ c.bitLength ≤ 24 * xs.length
      ∧ c.payload.length = 4 * ((c.bitLength + 31) / 32) ∧ c.order ≤ 3 ∧ c.parameter ≤ 26)
    ∧ (c.verbatim = true →
      readVerbatim xs.length c.payload = xs ∧ c.payload.length = 3 * xs.length ∧ c.bitLength = 24 * xs.length
      ∧ c.order = 0 ∧ c.parameter = 0)

/-! ### Invariants -/

/-- Every step keeps the capacities and sizes of the part's queues, stores and tables. -/
def Obligations.EveryStepKeepsTheCapacities : Prop := ∀ s t : State, s.Safe → step s = .next t → t.Safe

/-- R45: every step keeps the Frame Table in order: at most D records, at most four, all above the newest closed
number and within D numbers of the newest held. -/
def Obligations.EveryStepKeepsTheFrameOrder : Prop :=
  ∀ s t : State, s.FrameOrder → step s = .next t →
    t.FrameOrder ∧ t.ft.frames.length ≤ t.sess.lateness ∧ t.ft.frames.length ≤ 4
    ∧ ∀ f ∈ t.ft.frames, (∀ g, t.ft.newest = some g → g < f.number)
      ∧ ∀ h ∈ t.ft.frames, h.number ≤ f.number + (t.sess.lateness - 1)

/-- The state after power-on reset meets both invariants, whatever the straps. -/
def Obligations.ResetStateMeetsTheInvariants : Prop :=
  ∀ (b : BitVec 8) (strap : Bool), (State.powerOn b strap).Safe ∧ (State.powerOn b strap).FrameOrder
    ∧ State.reset.Safe ∧ State.reset.FrameOrder
end

