-- ==== Sys2Proof/Laws/Bytes.lean ====
section
/-! SUPPORT. Lengths and values of byte fields and lines, and the small arithmetic of Bytes.lean and Functions.lean. -/

namespace Sys2Proof.Machine

@[simp] theorem leBytes_length (n x : Nat) : (leBytes n x).length = n := by
  induction n generalizing x with
  | zero => rfl
  | succ n ih => simp [leBytes, ih]

/-- A field of `n` bytes carries the value modulo 256^n. -/
theorem leValue_leBytes (n x : Nat) : leValue (leBytes n x) = x % 256 ^ n := by
  induction n generalizing x with
  | zero => simp [leBytes, leValue, Nat.mod_one]
  | succ n ih =>
    rw [leBytes, leValue, ih, BitVec.toNat_ofNat, show 256 ^ (n + 1) = 256 * 256 ^ n from pow_succ' 256 n, Nat.mod_mul]

@[simp] theorem padTo_length (n : Nat) (bytes : List Byte) : (padTo n bytes).length = n := by
  simp [padTo]; omega

@[simp] theorem lineAt_length (bytes : List Byte) (offset : Nat) : (lineAt bytes offset).length = 64 :=
  padTo_length _ _

@[simp] theorem lineBytes_length (data : BitVec 512) : (lineBytes data).length = 64 := leBytes_length _ _

@[simp] theorem mergeLine_length (old new : List Byte) (mask : BitVec 64) : (mergeLine old new mask).length = 64 := by
  simp [mergeLine, lineSize]

/-- A merged line holds the new byte where the mask enables it, and the old one elsewhere. -/
theorem mergeLine_getD (old new : List Byte) (mask : BitVec 64) {k : Nat} (hk : k < 64) :
    (mergeLine old new mask).getD k 0 = if mask.getLsbD k then new.getD k 0 else old.getD k 0 := by
  simp [mergeLine, lineSize, List.getD, hk]

@[simp] theorem cutLines_length (bytes : List Byte) : (cutLines bytes).length = (bytes.length + 63) / 64 := by
  simp [cutLines]

theorem optionBytes_length (n : Nat) (x : Option Nat) : (optionBytes n x).length = n := by
  cases x <;> simp [optionBytes, noneBytes]

/-- A saturating count never passes its greatest value, and grows by at most one. -/
theorem satInc_cases (n : Nat) : (n < maxCount ∧ satInc n = n + 1) ∨ (maxCount ≤ n ∧ satInc n = n) := by
  unfold satInc
  split <;> omega

theorem noRepeats_iff {α : Type} [DecidableEq α] (l : List α) : noRepeats l = true ↔ l.Nodup := by
  induction l with
  | nil => simp [noRepeats]
  | cons x xs ih => simp [noRepeats, ih]

theorem clamp_eq {low high x : Nat} (h : low ≤ high) : clamp low high x = max low (min x high) := by
  unfold clamp
  split <;> (try split) <;> omega

/-- Bodies of entries of one size have the size times their number. -/
theorem flatMap_length {α : Type} (f : α → List Byte) (size : Nat) (l : List α) (h : ∀ a ∈ l, (f a).length = size) :
    (l.flatMap f).length = size * l.length := by
  induction l with
  | nil => simp
  | cons x xs ih =>
    rw [List.flatMap_cons, List.length_append, h x (by simp), ih fun a ha => h a (by simp [ha]), List.length_cons]
    ring

/-- Changing one entry by its number. -/
theorem map_zipIdx_eq_modify {α : Type} (f : α → α) (l : List α) (k n : Nat) :
    ((l.zipIdx k).map fun p => if p.2 = n + k then f p.1 else p.1) = l.modify n f := by
  induction l generalizing k n with
  | nil => simp
  | cons x xs ih =>
    rw [List.zipIdx_cons]
    cases n with
    | zero =>
      have keep : ∀ (l : List α) (j : Nat), k < j → ((l.zipIdx j).map fun p => if p.2 = k then f p.1 else p.1) = l := by
        intro l
        induction l with
        | nil => simp
        | cons y ys ih2 =>
          intro j hj
          rw [List.zipIdx_cons, List.map_cons, ih2 _ (by omega), if_neg (by simp; omega)]
      simpa using keep xs (k + 1) (by omega)
    | succ m =>
      simp only [List.map_cons, List.modify_succ_cons]
      rw [if_neg (by omega), ← ih (k + 1) m]
      congr 2
      funext p
      congr 1
      simp
      omega

end Sys2Proof.Machine
end

