-- ==== Sys2Proof/Laws/State.lean ====
section
/-! SUPPORT. The setters of the blocks of State: what each field of the machine reads after each of them. -/

namespace Sys2Proof.Machine

@[simp] theorem State.setPorts_pending (s : State) (x : Ports) : (s.setPorts x).pending = s.pending := rfl
@[simp] theorem State.setPorts_ports (s : State) (x : Ports) : (s.setPorts x).ports = x := rfl
@[simp] theorem State.setPorts_straps (s : State) (x : Ports) : (s.setPorts x).straps = s.straps := rfl
@[simp] theorem State.setPorts_path (s : State) (x : Ports) : (s.setPorts x).path = s.path := rfl
@[simp] theorem State.setPorts_cmd (s : State) (x : Ports) : (s.setPorts x).cmd = s.cmd := rfl
@[simp] theorem State.setPorts_sess (s : State) (x : Ports) : (s.setPorts x).sess = s.sess := rfl
@[simp] theorem State.setPorts_buffers (s : State) (x : Ports) : (s.setPorts x).buffers = s.buffers := rfl
@[simp] theorem State.setPorts_tracks (s : State) (x : Ports) : (s.setPorts x).tracks = s.tracks := rfl
@[simp] theorem State.setPorts_ft (s : State) (x : Ports) : (s.setPorts x).ft = s.ft := rfl
@[simp] theorem State.setPorts_buses (s : State) (x : Ports) : (s.setPorts x).buses = s.buses := rfl
@[simp] theorem State.setPorts_aw (s : State) (x : Ports) : (s.setPorts x).aw = s.aw := rfl
@[simp] theorem State.setPorts_sw (s : State) (x : Ports) : (s.setPorts x).sw = s.sw := rfl
@[simp] theorem State.setPorts_rw (s : State) (x : Ports) : (s.setPorts x).rw = s.rw := rfl
@[simp] theorem State.setPorts_report (s : State) (x : Ports) : (s.setPorts x).report = s.report := rfl
@[simp] theorem State.setPorts_freeCount (s : State) (x : Ports) : (s.setPorts x).freeCount = s.freeCount := rfl

@[simp] theorem State.setStraps_pending (s : State) (x : Straps) : (s.setStraps x).pending = s.pending := rfl
@[simp] theorem State.setStraps_ports (s : State) (x : Straps) : (s.setStraps x).ports = s.ports := rfl
@[simp] theorem State.setStraps_straps (s : State) (x : Straps) : (s.setStraps x).straps = x := rfl
@[simp] theorem State.setStraps_path (s : State) (x : Straps) : (s.setStraps x).path = s.path := rfl
@[simp] theorem State.setStraps_cmd (s : State) (x : Straps) : (s.setStraps x).cmd = s.cmd := rfl
@[simp] theorem State.setStraps_sess (s : State) (x : Straps) : (s.setStraps x).sess = s.sess := rfl
@[simp] theorem State.setStraps_buffers (s : State) (x : Straps) : (s.setStraps x).buffers = s.buffers := rfl
@[simp] theorem State.setStraps_tracks (s : State) (x : Straps) : (s.setStraps x).tracks = s.tracks := rfl
@[simp] theorem State.setStraps_ft (s : State) (x : Straps) : (s.setStraps x).ft = s.ft := rfl
@[simp] theorem State.setStraps_buses (s : State) (x : Straps) : (s.setStraps x).buses = s.buses := rfl
@[simp] theorem State.setStraps_aw (s : State) (x : Straps) : (s.setStraps x).aw = s.aw := rfl
@[simp] theorem State.setStraps_sw (s : State) (x : Straps) : (s.setStraps x).sw = s.sw := rfl
@[simp] theorem State.setStraps_rw (s : State) (x : Straps) : (s.setStraps x).rw = s.rw := rfl
@[simp] theorem State.setStraps_report (s : State) (x : Straps) : (s.setStraps x).report = s.report := rfl
@[simp] theorem State.setStraps_freeCount (s : State) (x : Straps) : (s.setStraps x).freeCount = s.freeCount := rfl

@[simp] theorem State.setPath_pending (s : State) (x : PathUnit) : (s.setPath x).pending = s.pending := rfl
@[simp] theorem State.setPath_ports (s : State) (x : PathUnit) : (s.setPath x).ports = s.ports := rfl
@[simp] theorem State.setPath_straps (s : State) (x : PathUnit) : (s.setPath x).straps = s.straps := rfl
@[simp] theorem State.setPath_path (s : State) (x : PathUnit) : (s.setPath x).path = x := rfl
@[simp] theorem State.setPath_cmd (s : State) (x : PathUnit) : (s.setPath x).cmd = s.cmd := rfl
@[simp] theorem State.setPath_sess (s : State) (x : PathUnit) : (s.setPath x).sess = s.sess := rfl
@[simp] theorem State.setPath_buffers (s : State) (x : PathUnit) : (s.setPath x).buffers = s.buffers := rfl
@[simp] theorem State.setPath_tracks (s : State) (x : PathUnit) : (s.setPath x).tracks = s.tracks := rfl
@[simp] theorem State.setPath_ft (s : State) (x : PathUnit) : (s.setPath x).ft = s.ft := rfl
@[simp] theorem State.setPath_buses (s : State) (x : PathUnit) : (s.setPath x).buses = s.buses := rfl
@[simp] theorem State.setPath_aw (s : State) (x : PathUnit) : (s.setPath x).aw = s.aw := rfl
@[simp] theorem State.setPath_sw (s : State) (x : PathUnit) : (s.setPath x).sw = s.sw := rfl
@[simp] theorem State.setPath_rw (s : State) (x : PathUnit) : (s.setPath x).rw = s.rw := rfl
@[simp] theorem State.setPath_report (s : State) (x : PathUnit) : (s.setPath x).report = s.report := rfl
@[simp] theorem State.setPath_freeCount (s : State) (x : PathUnit) : (s.setPath x).freeCount = s.freeCount := rfl

@[simp] theorem State.setCmd_pending (s : State) (x : CommandUnit) : (s.setCmd x).pending = s.pending := rfl
@[simp] theorem State.setCmd_ports (s : State) (x : CommandUnit) : (s.setCmd x).ports = s.ports := rfl
@[simp] theorem State.setCmd_straps (s : State) (x : CommandUnit) : (s.setCmd x).straps = s.straps := rfl
@[simp] theorem State.setCmd_path (s : State) (x : CommandUnit) : (s.setCmd x).path = s.path := rfl
@[simp] theorem State.setCmd_cmd (s : State) (x : CommandUnit) : (s.setCmd x).cmd = x := rfl
@[simp] theorem State.setCmd_sess (s : State) (x : CommandUnit) : (s.setCmd x).sess = s.sess := rfl
@[simp] theorem State.setCmd_buffers (s : State) (x : CommandUnit) : (s.setCmd x).buffers = s.buffers := rfl
@[simp] theorem State.setCmd_tracks (s : State) (x : CommandUnit) : (s.setCmd x).tracks = s.tracks := rfl
@[simp] theorem State.setCmd_ft (s : State) (x : CommandUnit) : (s.setCmd x).ft = s.ft := rfl
@[simp] theorem State.setCmd_buses (s : State) (x : CommandUnit) : (s.setCmd x).buses = s.buses := rfl
@[simp] theorem State.setCmd_aw (s : State) (x : CommandUnit) : (s.setCmd x).aw = s.aw := rfl
@[simp] theorem State.setCmd_sw (s : State) (x : CommandUnit) : (s.setCmd x).sw = s.sw := rfl
@[simp] theorem State.setCmd_rw (s : State) (x : CommandUnit) : (s.setCmd x).rw = s.rw := rfl
@[simp] theorem State.setCmd_report (s : State) (x : CommandUnit) : (s.setCmd x).report = s.report := rfl
@[simp] theorem State.setCmd_freeCount (s : State) (x : CommandUnit) : (s.setCmd x).freeCount = s.freeCount := rfl

@[simp] theorem State.setSess_pending (s : State) (x : SessionControl) : (s.setSess x).pending = s.pending := rfl
@[simp] theorem State.setSess_ports (s : State) (x : SessionControl) : (s.setSess x).ports = s.ports := rfl
@[simp] theorem State.setSess_straps (s : State) (x : SessionControl) : (s.setSess x).straps = s.straps := rfl
@[simp] theorem State.setSess_path (s : State) (x : SessionControl) : (s.setSess x).path = s.path := rfl
@[simp] theorem State.setSess_cmd (s : State) (x : SessionControl) : (s.setSess x).cmd = s.cmd := rfl
@[simp] theorem State.setSess_sess (s : State) (x : SessionControl) : (s.setSess x).sess = x := rfl
@[simp] theorem State.setSess_buffers (s : State) (x : SessionControl) : (s.setSess x).buffers = s.buffers := rfl
@[simp] theorem State.setSess_tracks (s : State) (x : SessionControl) : (s.setSess x).tracks = s.tracks := rfl
@[simp] theorem State.setSess_ft (s : State) (x : SessionControl) : (s.setSess x).ft = s.ft := rfl
@[simp] theorem State.setSess_buses (s : State) (x : SessionControl) : (s.setSess x).buses = s.buses := rfl
@[simp] theorem State.setSess_aw (s : State) (x : SessionControl) : (s.setSess x).aw = s.aw := rfl
@[simp] theorem State.setSess_sw (s : State) (x : SessionControl) : (s.setSess x).sw = s.sw := rfl
@[simp] theorem State.setSess_rw (s : State) (x : SessionControl) : (s.setSess x).rw = s.rw := rfl
@[simp] theorem State.setSess_report (s : State) (x : SessionControl) : (s.setSess x).report = s.report := rfl
@[simp] theorem State.setSess_freeCount (s : State) (x : SessionControl) : (s.setSess x).freeCount = s.freeCount := rfl

@[simp] theorem State.setBuffers_pending (s : State) (x : List Buffer) : (s.setBuffers x).pending = s.pending := rfl
@[simp] theorem State.setBuffers_ports (s : State) (x : List Buffer) : (s.setBuffers x).ports = s.ports := rfl
@[simp] theorem State.setBuffers_straps (s : State) (x : List Buffer) : (s.setBuffers x).straps = s.straps := rfl
@[simp] theorem State.setBuffers_path (s : State) (x : List Buffer) : (s.setBuffers x).path = s.path := rfl
@[simp] theorem State.setBuffers_cmd (s : State) (x : List Buffer) : (s.setBuffers x).cmd = s.cmd := rfl
@[simp] theorem State.setBuffers_sess (s : State) (x : List Buffer) : (s.setBuffers x).sess = s.sess := rfl
@[simp] theorem State.setBuffers_buffers (s : State) (x : List Buffer) : (s.setBuffers x).buffers = x := rfl
@[simp] theorem State.setBuffers_tracks (s : State) (x : List Buffer) : (s.setBuffers x).tracks = s.tracks := rfl
@[simp] theorem State.setBuffers_ft (s : State) (x : List Buffer) : (s.setBuffers x).ft = s.ft := rfl
@[simp] theorem State.setBuffers_buses (s : State) (x : List Buffer) : (s.setBuffers x).buses = s.buses := rfl
@[simp] theorem State.setBuffers_aw (s : State) (x : List Buffer) : (s.setBuffers x).aw = s.aw := rfl
@[simp] theorem State.setBuffers_sw (s : State) (x : List Buffer) : (s.setBuffers x).sw = s.sw := rfl
@[simp] theorem State.setBuffers_rw (s : State) (x : List Buffer) : (s.setBuffers x).rw = s.rw := rfl
@[simp] theorem State.setBuffers_report (s : State) (x : List Buffer) : (s.setBuffers x).report = s.report := rfl
@[simp] theorem State.setBuffers_freeCount (s : State) (x : List Buffer) : (s.setBuffers x).freeCount = s.freeCount := rfl

@[simp] theorem State.setTracks_pending (s : State) (x : List Track) : (s.setTracks x).pending = s.pending := rfl
@[simp] theorem State.setTracks_ports (s : State) (x : List Track) : (s.setTracks x).ports = s.ports := rfl
@[simp] theorem State.setTracks_straps (s : State) (x : List Track) : (s.setTracks x).straps = s.straps := rfl
@[simp] theorem State.setTracks_path (s : State) (x : List Track) : (s.setTracks x).path = s.path := rfl
@[simp] theorem State.setTracks_cmd (s : State) (x : List Track) : (s.setTracks x).cmd = s.cmd := rfl
@[simp] theorem State.setTracks_sess (s : State) (x : List Track) : (s.setTracks x).sess = s.sess := rfl
@[simp] theorem State.setTracks_buffers (s : State) (x : List Track) : (s.setTracks x).buffers = s.buffers := rfl
@[simp] theorem State.setTracks_tracks (s : State) (x : List Track) : (s.setTracks x).tracks = x := rfl
@[simp] theorem State.setTracks_ft (s : State) (x : List Track) : (s.setTracks x).ft = s.ft := rfl
@[simp] theorem State.setTracks_buses (s : State) (x : List Track) : (s.setTracks x).buses = s.buses := rfl
@[simp] theorem State.setTracks_aw (s : State) (x : List Track) : (s.setTracks x).aw = s.aw := rfl
@[simp] theorem State.setTracks_sw (s : State) (x : List Track) : (s.setTracks x).sw = s.sw := rfl
@[simp] theorem State.setTracks_rw (s : State) (x : List Track) : (s.setTracks x).rw = s.rw := rfl
@[simp] theorem State.setTracks_report (s : State) (x : List Track) : (s.setTracks x).report = s.report := rfl
@[simp] theorem State.setTracks_freeCount (s : State) (x : List Track) : (s.setTracks x).freeCount = s.freeCount := rfl

@[simp] theorem State.setFt_pending (s : State) (x : FrameTable) : (s.setFt x).pending = s.pending := rfl
@[simp] theorem State.setFt_ports (s : State) (x : FrameTable) : (s.setFt x).ports = s.ports := rfl
@[simp] theorem State.setFt_straps (s : State) (x : FrameTable) : (s.setFt x).straps = s.straps := rfl
@[simp] theorem State.setFt_path (s : State) (x : FrameTable) : (s.setFt x).path = s.path := rfl
@[simp] theorem State.setFt_cmd (s : State) (x : FrameTable) : (s.setFt x).cmd = s.cmd := rfl
@[simp] theorem State.setFt_sess (s : State) (x : FrameTable) : (s.setFt x).sess = s.sess := rfl
@[simp] theorem State.setFt_buffers (s : State) (x : FrameTable) : (s.setFt x).buffers = s.buffers := rfl
@[simp] theorem State.setFt_tracks (s : State) (x : FrameTable) : (s.setFt x).tracks = s.tracks := rfl
@[simp] theorem State.setFt_ft (s : State) (x : FrameTable) : (s.setFt x).ft = x := rfl
@[simp] theorem State.setFt_buses (s : State) (x : FrameTable) : (s.setFt x).buses = s.buses := rfl
@[simp] theorem State.setFt_aw (s : State) (x : FrameTable) : (s.setFt x).aw = s.aw := rfl
@[simp] theorem State.setFt_sw (s : State) (x : FrameTable) : (s.setFt x).sw = s.sw := rfl
@[simp] theorem State.setFt_rw (s : State) (x : FrameTable) : (s.setFt x).rw = s.rw := rfl
@[simp] theorem State.setFt_report (s : State) (x : FrameTable) : (s.setFt x).report = s.report := rfl
@[simp] theorem State.setFt_freeCount (s : State) (x : FrameTable) : (s.setFt x).freeCount = s.freeCount := rfl

@[simp] theorem State.setBuses_pending (s : State) (x : List Bus) : (s.setBuses x).pending = s.pending := rfl
@[simp] theorem State.setBuses_ports (s : State) (x : List Bus) : (s.setBuses x).ports = s.ports := rfl
@[simp] theorem State.setBuses_straps (s : State) (x : List Bus) : (s.setBuses x).straps = s.straps := rfl
@[simp] theorem State.setBuses_path (s : State) (x : List Bus) : (s.setBuses x).path = s.path := rfl
@[simp] theorem State.setBuses_cmd (s : State) (x : List Bus) : (s.setBuses x).cmd = s.cmd := rfl
@[simp] theorem State.setBuses_sess (s : State) (x : List Bus) : (s.setBuses x).sess = s.sess := rfl
@[simp] theorem State.setBuses_buffers (s : State) (x : List Bus) : (s.setBuses x).buffers = s.buffers := rfl
@[simp] theorem State.setBuses_tracks (s : State) (x : List Bus) : (s.setBuses x).tracks = s.tracks := rfl
@[simp] theorem State.setBuses_ft (s : State) (x : List Bus) : (s.setBuses x).ft = s.ft := rfl
@[simp] theorem State.setBuses_buses (s : State) (x : List Bus) : (s.setBuses x).buses = x := rfl
@[simp] theorem State.setBuses_aw (s : State) (x : List Bus) : (s.setBuses x).aw = s.aw := rfl
@[simp] theorem State.setBuses_sw (s : State) (x : List Bus) : (s.setBuses x).sw = s.sw := rfl
@[simp] theorem State.setBuses_rw (s : State) (x : List Bus) : (s.setBuses x).rw = s.rw := rfl
@[simp] theorem State.setBuses_report (s : State) (x : List Bus) : (s.setBuses x).report = s.report := rfl
@[simp] theorem State.setBuses_freeCount (s : State) (x : List Bus) : (s.setBuses x).freeCount = s.freeCount := rfl

@[simp] theorem State.setAw_pending (s : State) (x : ArchiveWriter) : (s.setAw x).pending = s.pending := rfl
@[simp] theorem State.setAw_ports (s : State) (x : ArchiveWriter) : (s.setAw x).ports = s.ports := rfl
@[simp] theorem State.setAw_straps (s : State) (x : ArchiveWriter) : (s.setAw x).straps = s.straps := rfl
@[simp] theorem State.setAw_path (s : State) (x : ArchiveWriter) : (s.setAw x).path = s.path := rfl
@[simp] theorem State.setAw_cmd (s : State) (x : ArchiveWriter) : (s.setAw x).cmd = s.cmd := rfl
@[simp] theorem State.setAw_sess (s : State) (x : ArchiveWriter) : (s.setAw x).sess = s.sess := rfl
@[simp] theorem State.setAw_buffers (s : State) (x : ArchiveWriter) : (s.setAw x).buffers = s.buffers := rfl
@[simp] theorem State.setAw_tracks (s : State) (x : ArchiveWriter) : (s.setAw x).tracks = s.tracks := rfl
@[simp] theorem State.setAw_ft (s : State) (x : ArchiveWriter) : (s.setAw x).ft = s.ft := rfl
@[simp] theorem State.setAw_buses (s : State) (x : ArchiveWriter) : (s.setAw x).buses = s.buses := rfl
@[simp] theorem State.setAw_aw (s : State) (x : ArchiveWriter) : (s.setAw x).aw = x := rfl
@[simp] theorem State.setAw_sw (s : State) (x : ArchiveWriter) : (s.setAw x).sw = s.sw := rfl
@[simp] theorem State.setAw_rw (s : State) (x : ArchiveWriter) : (s.setAw x).rw = s.rw := rfl
@[simp] theorem State.setAw_report (s : State) (x : ArchiveWriter) : (s.setAw x).report = s.report := rfl
@[simp] theorem State.setAw_freeCount (s : State) (x : ArchiveWriter) : (s.setAw x).freeCount = s.freeCount := rfl

@[simp] theorem State.setSw_pending (s : State) (x : StreamWriter) : (s.setSw x).pending = s.pending := rfl
@[simp] theorem State.setSw_ports (s : State) (x : StreamWriter) : (s.setSw x).ports = s.ports := rfl
@[simp] theorem State.setSw_straps (s : State) (x : StreamWriter) : (s.setSw x).straps = s.straps := rfl
@[simp] theorem State.setSw_path (s : State) (x : StreamWriter) : (s.setSw x).path = s.path := rfl
@[simp] theorem State.setSw_cmd (s : State) (x : StreamWriter) : (s.setSw x).cmd = s.cmd := rfl
@[simp] theorem State.setSw_sess (s : State) (x : StreamWriter) : (s.setSw x).sess = s.sess := rfl
@[simp] theorem State.setSw_buffers (s : State) (x : StreamWriter) : (s.setSw x).buffers = s.buffers := rfl
@[simp] theorem State.setSw_tracks (s : State) (x : StreamWriter) : (s.setSw x).tracks = s.tracks := rfl
@[simp] theorem State.setSw_ft (s : State) (x : StreamWriter) : (s.setSw x).ft = s.ft := rfl
@[simp] theorem State.setSw_buses (s : State) (x : StreamWriter) : (s.setSw x).buses = s.buses := rfl
@[simp] theorem State.setSw_aw (s : State) (x : StreamWriter) : (s.setSw x).aw = s.aw := rfl
@[simp] theorem State.setSw_sw (s : State) (x : StreamWriter) : (s.setSw x).sw = x := rfl
@[simp] theorem State.setSw_rw (s : State) (x : StreamWriter) : (s.setSw x).rw = s.rw := rfl
@[simp] theorem State.setSw_report (s : State) (x : StreamWriter) : (s.setSw x).report = s.report := rfl
@[simp] theorem State.setSw_freeCount (s : State) (x : StreamWriter) : (s.setSw x).freeCount = s.freeCount := rfl

@[simp] theorem State.setRw_pending (s : State) (x : ReportWriter) : (s.setRw x).pending = s.pending := rfl
@[simp] theorem State.setRw_ports (s : State) (x : ReportWriter) : (s.setRw x).ports = s.ports := rfl
@[simp] theorem State.setRw_straps (s : State) (x : ReportWriter) : (s.setRw x).straps = s.straps := rfl
@[simp] theorem State.setRw_path (s : State) (x : ReportWriter) : (s.setRw x).path = s.path := rfl
@[simp] theorem State.setRw_cmd (s : State) (x : ReportWriter) : (s.setRw x).cmd = s.cmd := rfl
@[simp] theorem State.setRw_sess (s : State) (x : ReportWriter) : (s.setRw x).sess = s.sess := rfl
@[simp] theorem State.setRw_buffers (s : State) (x : ReportWriter) : (s.setRw x).buffers = s.buffers := rfl
@[simp] theorem State.setRw_tracks (s : State) (x : ReportWriter) : (s.setRw x).tracks = s.tracks := rfl
@[simp] theorem State.setRw_ft (s : State) (x : ReportWriter) : (s.setRw x).ft = s.ft := rfl
@[simp] theorem State.setRw_buses (s : State) (x : ReportWriter) : (s.setRw x).buses = s.buses := rfl
@[simp] theorem State.setRw_aw (s : State) (x : ReportWriter) : (s.setRw x).aw = s.aw := rfl
@[simp] theorem State.setRw_sw (s : State) (x : ReportWriter) : (s.setRw x).sw = s.sw := rfl
@[simp] theorem State.setRw_rw (s : State) (x : ReportWriter) : (s.setRw x).rw = x := rfl
@[simp] theorem State.setRw_report (s : State) (x : ReportWriter) : (s.setRw x).report = s.report := rfl
@[simp] theorem State.setRw_freeCount (s : State) (x : ReportWriter) : (s.setRw x).freeCount = s.freeCount := rfl

@[simp] theorem State.setReport_pending (s : State) (x : Option Report) : (s.setReport x).pending = s.pending := rfl
@[simp] theorem State.setReport_ports (s : State) (x : Option Report) : (s.setReport x).ports = s.ports := rfl
@[simp] theorem State.setReport_straps (s : State) (x : Option Report) : (s.setReport x).straps = s.straps := rfl
@[simp] theorem State.setReport_path (s : State) (x : Option Report) : (s.setReport x).path = s.path := rfl
@[simp] theorem State.setReport_cmd (s : State) (x : Option Report) : (s.setReport x).cmd = s.cmd := rfl
@[simp] theorem State.setReport_sess (s : State) (x : Option Report) : (s.setReport x).sess = s.sess := rfl
@[simp] theorem State.setReport_buffers (s : State) (x : Option Report) : (s.setReport x).buffers = s.buffers := rfl
@[simp] theorem State.setReport_tracks (s : State) (x : Option Report) : (s.setReport x).tracks = s.tracks := rfl
@[simp] theorem State.setReport_ft (s : State) (x : Option Report) : (s.setReport x).ft = s.ft := rfl
@[simp] theorem State.setReport_buses (s : State) (x : Option Report) : (s.setReport x).buses = s.buses := rfl
@[simp] theorem State.setReport_aw (s : State) (x : Option Report) : (s.setReport x).aw = s.aw := rfl
@[simp] theorem State.setReport_sw (s : State) (x : Option Report) : (s.setReport x).sw = s.sw := rfl
@[simp] theorem State.setReport_rw (s : State) (x : Option Report) : (s.setReport x).rw = s.rw := rfl
@[simp] theorem State.setReport_report (s : State) (x : Option Report) : (s.setReport x).report = x := rfl
@[simp] theorem State.setReport_freeCount (s : State) (x : Option Report) : (s.setReport x).freeCount = s.freeCount := rfl

@[simp] theorem State.setFreeCount_pending (s : State) (x : Nat) : (s.setFreeCount x).pending = s.pending := rfl
@[simp] theorem State.setFreeCount_ports (s : State) (x : Nat) : (s.setFreeCount x).ports = s.ports := rfl
@[simp] theorem State.setFreeCount_straps (s : State) (x : Nat) : (s.setFreeCount x).straps = s.straps := rfl
@[simp] theorem State.setFreeCount_path (s : State) (x : Nat) : (s.setFreeCount x).path = s.path := rfl
@[simp] theorem State.setFreeCount_cmd (s : State) (x : Nat) : (s.setFreeCount x).cmd = s.cmd := rfl
@[simp] theorem State.setFreeCount_sess (s : State) (x : Nat) : (s.setFreeCount x).sess = s.sess := rfl
@[simp] theorem State.setFreeCount_buffers (s : State) (x : Nat) : (s.setFreeCount x).buffers = s.buffers := rfl
@[simp] theorem State.setFreeCount_tracks (s : State) (x : Nat) : (s.setFreeCount x).tracks = s.tracks := rfl
@[simp] theorem State.setFreeCount_ft (s : State) (x : Nat) : (s.setFreeCount x).ft = s.ft := rfl
@[simp] theorem State.setFreeCount_buses (s : State) (x : Nat) : (s.setFreeCount x).buses = s.buses := rfl
@[simp] theorem State.setFreeCount_aw (s : State) (x : Nat) : (s.setFreeCount x).aw = s.aw := rfl
@[simp] theorem State.setFreeCount_sw (s : State) (x : Nat) : (s.setFreeCount x).sw = s.sw := rfl
@[simp] theorem State.setFreeCount_rw (s : State) (x : Nat) : (s.setFreeCount x).rw = s.rw := rfl
@[simp] theorem State.setFreeCount_report (s : State) (x : Nat) : (s.setFreeCount x).report = s.report := rfl
@[simp] theorem State.setFreeCount_freeCount (s : State) (x : Nat) : (s.setFreeCount x).freeCount = x := rfl


end Sys2Proof.Machine
end

