-- ==== Sys2Proof/Laws/Ops.lean ====
section
/-! SUPPORT. What each shared operation can do, said once: filing, enqueueing, notes, checks and outcomes, submission,
and the events that are owed. -/

namespace Sys2Proof.Machine

/-! ### Per-producer values -/

@[simp] theorem PerProducer.get_set_self {α : Type} (v : PerProducer α) (p : Producer) (x : α) :
    (v.set p x).get p = x := by
  cases p <;> rfl

theorem PerProducer.get_set_of_ne {α : Type} (v : PerProducer α) {p q : Producer} (x : α) (h : q ≠ p) :
    (v.set p x).get q = v.get q := by
  cases p <;> cases q <;> first | rfl | exact absurd rfl h

theorem PerProducer.set_get {α : Type} (v : PerProducer α) (p : Producer) : v.set p (v.get p) = v := by
  cases p <;> rfl

/-! ### Filing (R165) -/

/-- Filing discards, queues or loses the record; only the queue and the lost counter can change. -/
theorem ReportWriter.file_cases (r : Record) (w : ReportWriter) :
    ((w.settings = none ∨ ∃ c, w.settings = some c ∧ c.records.getLsbD r.kind.classCode = false) ∧ w.file r = w)
    ∨ ∃ c, w.settings = some c ∧ c.records.getLsbD r.kind.classCode = true
        ∧ ((w.queue.length < 32
            ∧ w.file r = { w with queue := w.queue ++ [⟨r, c.pulses.getLsbD r.kind.classCode⟩] })
          ∨ (32 ≤ w.queue.length ∧ w.file r = { w with lost := satInc w.lost })) := by
  unfold ReportWriter.file recordQueueSize
  cases hs : w.settings with
  | none => exact .inl ⟨.inl rfl, rfl⟩
  | some c =>
    cases hc : c.records.getLsbD r.kind.classCode with
    | false => exact .inl ⟨.inr ⟨c, rfl, hc⟩, by simp [hc]⟩
    | true =>
      refine .inr ⟨c, rfl, hc, ?_⟩
      by_cases hl : w.queue.length < 32
      · exact .inl ⟨hl, by simp [hc, hl]⟩
      · exact .inr ⟨by omega, by simp [hc, hl]⟩

/-- Filing keeps the settings, the ring position and the startup flag, and the queue within its 32 records. -/
theorem ReportWriter.file_keeps (r : Record) (w : ReportWriter) :
    (w.file r).settings = w.settings ∧ (w.file r).index = w.index ∧ (w.file r).serial = w.serial
      ∧ (w.file r).startup = w.startup ∧ (w.queue.length ≤ 32 → (w.file r).queue.length ≤ 32) := by
  rcases w.file_cases r with ⟨-, h⟩ | ⟨c, -, -, ⟨hl, h⟩ | ⟨-, h⟩⟩
  · simp [h]
  · rw [h]; simp; omega
  · simp [h]

theorem ReportWriter.foldl_file_keeps (rs : List Record) (w : ReportWriter) :
    let v := rs.foldl (fun w r => w.file r) w
    v.settings = w.settings ∧ v.index = w.index ∧ v.serial = w.serial ∧ v.startup = w.startup
      ∧ (w.queue.length ≤ 32 → v.queue.length ≤ 32) := by
  induction rs generalizing w with
  | nil => simp
  | cons r rs ih =>
    obtain ⟨a, b, c, d, e⟩ := w.file_keeps r
    obtain ⟨a', b', c', d', e'⟩ := ih (w.file r)
    exact ⟨a'.trans a, b'.trans b, c'.trans c, d'.trans d, fun h => e' (e h)⟩

/-- Filing one record, or several, or those of two takes in either order, changes the Report Writer alone, and the
count of free choices. -/
theorem State.file_eq (s : State) (r : Record) : s.file r = { s with rw := s.rw.file r } := rfl

theorem State.fileAll_eq (s : State) (rs : List Record) :
    s.fileAll rs = { s with rw := rs.foldl (fun w r => w.file r) s.rw } := rfl

theorem State.fileEither_eq (s : State) (a b : List Record) :
    ∃ rs, (rs = a ++ b ∨ rs = b ++ a)
      ∧ s.fileEither a b
        = { s with rw := rs.foldl (fun w r => w.file r) s.rw, freeCount := s.freeCount + 1 } := by
  refine ⟨eitherOrder s.freeCount a b, ?_, rfl⟩
  unfold eitherOrder
  split
  · simp
  · simp
  · split
    · exact .inl rfl
    · exact .inr rfl

/-! ### Enqueueing (R132, R137) -/

theorem PathUnit.hasRoom_iff (u : PathUnit) (p : Producer) :
    u.hasRoom p = true ↔ (u.queues.get p).length < p.capacity := by
  simp [PathUnit.hasRoom]

/-- A line joins the tail of its producer's queue with the next entry order, and no other queue changes. -/
theorem PathUnit.enqueue_get (u : PathUnit) (p q : Producer) (addr : Nat) (write : WriteData) (note : Note) :
    (u.enqueue p addr write note).queues.get q
      = u.queues.get q ++ if q = p then [⟨u.nextOrder, addr, write, note⟩] else [] := by
  by_cases h : q = p
  · subst h; simp [PathUnit.enqueue]
  · rw [if_neg h, List.append_nil]
    exact PerProducer.get_set_of_ne _ _ h

@[simp] theorem PathUnit.enqueue_forward (u : PathUnit) (p : Producer) (addr : Nat) (write : WriteData) (note : Note) :
    (u.enqueue p addr write note).forward = u.forward := rfl

@[simp] theorem PathUnit.enqueue_waiting (u : PathUnit) (p : Producer) (addr : Nat) (write : WriteData) (note : Note) :
    (u.enqueue p addr write note).waiting = u.waiting := rfl

@[simp] theorem PathUnit.enqueue_nextOrder (u : PathUnit) (p : Producer) (addr : Nat) (write : WriteData)
    (note : Note) : (u.enqueue p addr write note).nextOrder = u.nextOrder + 1 := rfl

/-! ### Notes (R136, R142, R144) -/

theorem noted_iff (notes : List OnceNote) (target : Nat) (closed : Option Nat) :
    noted notes target closed = true ↔ ⟨target, closed⟩ ∈ notes := by
  simp only [noted, List.any_eq_true, Bool.and_eq_true, beq_iff_eq]
  constructor
  · rintro ⟨⟨t, c⟩, h, rfl, rfl⟩; exact h
  · exact fun h => ⟨_, h, rfl, rfl⟩

theorem noted_noteAt (notes : List OnceNote) (target : Nat) (closed : Option Nat) :
    noted (noteAt notes target closed) target closed = true := by
  simp [noted_iff, noteAt]

/-! ### The frame records -/

theorem FrameTable.nextNumber_of_some {t : FrameTable} {g : Nat} (h : t.newest = some g) : t.nextNumber = g + 1 := by
  simp [FrameTable.nextNumber, h]

theorem FrameTable.nextNumber_of_none {t : FrameTable} (h : t.newest = none) : t.nextNumber = 0 := by
  simp [FrameTable.nextNumber, h]

@[simp] theorem FrameTable.modify_newest (t : FrameTable) (g : Nat) (change : Frame → Frame) :
    (t.modify g change).newest = t.newest := rfl

@[simp] theorem FrameTable.modify_reference (t : FrameTable) (g : Nat) (change : Frame → Frame) :
    (t.modify g change).reference = t.reference := rfl

@[simp] theorem FrameTable.modify_nextNumber (t : FrameTable) (g : Nat) (change : Frame → Frame) :
    (t.modify g change).nextNumber = t.nextNumber := rfl

/-- A change that keeps the number of a record keeps the numbers held. -/
theorem FrameTable.modify_numbers (t : FrameTable) (g : Nat) (change : Frame → Frame)
    (h : ∀ f, (change f).number = f.number) :
    (t.modify g change).frames.map Frame.number = t.frames.map Frame.number := by
  simp only [FrameTable.modify, List.map_map]
  apply List.map_congr_left
  intro f _
  simp only [Function.comp_apply]
  split
  · exact h f
  · rfl

/-! ### Checks and outcomes (R153) -/

@[simp] theorem State.checked_nil (s : State) (act : State × Reply) : s.checked [] act = act := by
  simp [State.checked, firstFailure]

/-- A function's checks are made in order, and the first that fails refuses it with nothing changed. -/
theorem State.checked_cons (s : State) (ok : Bool) (r : Reason) (rest : List (Bool × Reason)) (act : State × Reply) :
    s.checked ((ok, r) :: rest) act = if ok then s.checked rest act else (s, .refused r) := by
  cases ok <;> simp [State.checked, firstFailure]

/-- Settling an outcome writes the working command and the output list, and nothing where none is working. -/
theorem CommandUnit.settleOutcome_of_working {u : CommandUnit} {w : Working} (h : u.working = some w)
    (flags : BitVec 16) (reason : Reason) (body : List Byte) :
    u.settleOutcome flags reason body
      = { u with
          working := some { w with flags := w.flags ||| flags, reason := reason, body := body, finals := w.finals + 1 }
          out := u.out ++ bodyLines body ++ [.finalHeader] } := by
  simp [CommandUnit.settleOutcome, h]

@[simp] theorem CommandUnit.settleOutcome_of_ready {u : CommandUnit} (h : u.working = none) (flags : BitVec 16)
    (reason : Reason) (body : List Byte) : u.settleOutcome flags reason body = u := by
  simp [CommandUnit.settleOutcome, h]

/-- An outcome, a failed check and a staged part change the Command Unit alone. -/
theorem State.answer_eq (s : State) (reply : Reply) : ∃ u, s.answer reply = { s with cmd := u } := by
  cases reply with
  | done body => exact ⟨_, rfl⟩
  | refused r => exact ⟨_, rfl⟩
  | later => exact ⟨s.cmd, rfl⟩

theorem State.failCheck_eq (s : State) (flag : BitVec 16) : ∃ u, s.failCheck flag = { s with cmd := u } := ⟨_, rfl⟩

theorem State.stagePart_eq (s : State) (fn : Function) (parts : Nat) (staged : List Byte) :
    ∃ u, s.stagePart fn parts staged = { s with cmd := u } := ⟨_, rfl⟩

/-- Beginning a take changes the Command Unit and, for the working header, the path. -/
theorem State.beginTake_eq (s : State) (seq : Byte) (function : BitVec 16) :
    ∃ u p, s.beginTake seq function = { s with cmd := u, path := p }
      ∧ u.working = some ⟨seq, function, 0, .none, [], false, 0⟩ ∧ u.lastTaken = seq ∧ u.coverage = 0
      ∧ u.openSequence = s.cmd.openSequence ∧ u.causes = s.cmd.causes ∧ u.pin = s.cmd.pin
      ∧ u.failReason = s.cmd.failReason := by
  unfold State.beginTake State.emitResponse
  dsimp only
  split
  · exact ⟨_, _, rfl, rfl, rfl, rfl, rfl, rfl, rfl, rfl⟩
  · exact ⟨_, s.path, rfl, rfl, rfl, rfl, rfl, rfl, rfl, rfl⟩

/-- A submission does nothing, counts an overrun, or is the take. -/
theorem State.submit_cases (s : State) (seq : Byte) (take : State → State) :
    ((s.straps.passOnly = true ∨ seq = 0 ∨ seq = s.cmd.lastTaken) ∧ s.submit seq take = s)
    ∨ (s.straps.passOnly = false ∧ seq ≠ 0 ∧ seq ≠ s.cmd.lastTaken
      ∧ ((s.cmd.working ≠ none ∧ s.submit seq take = s.setCmd s.cmd.overrun)
        ∨ (s.cmd.working = none ∧ s.submit seq take = take s))) := by
  unfold State.submit
  by_cases h : (s.straps.passOnly || seq == 0 || seq == s.cmd.lastTaken) = true
  · refine .inl ⟨?_, by rw [if_pos h]⟩
    simpa [or_assoc] using h
  · refine .inr ?_
    rw [if_neg h]
    have h' : s.straps.passOnly = false ∧ seq ≠ 0 ∧ seq ≠ s.cmd.lastTaken := by simpa [not_or, and_assoc] using h
    refine ⟨h'.1, h'.2.1, h'.2.2, ?_⟩
    cases hw : s.cmd.working with
    | none => exact .inr ⟨rfl, rfl⟩
    | some w => exact .inl ⟨by simp, rfl⟩

/-! ### Owed events (assumption 5) -/

@[simp] theorem State.takeReport_report (s : State) (r : Report) : (s.takeReport r).report = none := by
  cases r <;> simp only [State.takeReport]
  · unfold State.endCommand; split <;> rfl
  · unfold State.fillSlot; split <;> (try split) <;> rfl
  · rfl

@[simp] theorem State.takeReport_ports (s : State) (r : Report) : (s.takeReport r).ports = s.ports := by
  cases r <;> simp only [State.takeReport]
  · unfold State.endCommand; split <;> rfl
  · unfold State.fillSlot; split <;> (try split) <;> rfl
  · rfl

@[simp] theorem State.setPorts_drainOver (s : State) (p : Ports) : (s.setPorts p).drainOver = s.drainOver := rfl

/-- With no report waiting and DRAINING not over, a command finds the state as it is, its outputs quiet. -/
theorem State.ready_of_nothing_owed {s : State} (h : s.report = none) (hd : s.drainOver = false) :
    s.ready = s.setPorts Ports.quiet := by
  simp [State.ready, State.owed, h, hd]

/-- The take of a single-part function in a READY unit with no sequence open and nothing owed. -/
theorem State.takeFunction_of_ready {s : State} {seq : Byte} (fn : Function) (run : State → State × Reply)
    (h : s.report = none) (hd : s.drainOver = false) (hp : s.straps.passOnly = false) (h0 : seq ≠ 0)
    (hl : seq ≠ s.cmd.lastTaken) (hw : s.cmd.working = none) (ho : s.cmd.openSequence = none) :
    let u := (s.setPorts Ports.quiet).beginTake seq (BitVec.ofNat 16 fn.number)
    s.takeFunction seq fn run = (run u).1.answer (run u).2 := by
  intro u
  have hu : u.cmd.openSequence = none := by
    obtain ⟨c, p, hb, -, -, -, hs, -⟩ := (s.setPorts Ports.quiet).beginTake_eq seq (BitVec.ofNat 16 fn.number)
    show (State.beginTake _ _ _).cmd.openSequence = none
    rw [hb]
    exact hs.trans ho
  unfold State.takeFunction
  rw [State.ready_of_nothing_owed h hd]
  rcases (s.setPorts Ports.quiet).submit_cases seq
      (fun x => (x.beginTake seq (BitVec.ofNat 16 fn.number)).takeSingle run) with ⟨hc, -⟩ | ⟨-, -, -, ⟨hc, -⟩ | ⟨-, hc⟩⟩
  · rcases hc with hc | hc | hc
    · exact absurd (hc.symm.trans hp) (by simp)
    · exact absurd hc h0
    · exact absurd hc hl
  · exact absurd hw hc
  · rw [hc]
    show State.takeSingle u run = _
    simp [State.takeSingle, hu, State.execute]

end Sys2Proof.Machine
end

