-- ==== Sys2Proof/Laws/Frames.lean ====
section
/-! SUPPORT. What closing and opening a frame do to the Frame Table and to Session Control. -/

namespace Sys2Proof.Machine

/-! ### Closing (R43, R48) -/

/-- A close removes its number from the held records, makes it the newest closed one and counts it; the reference and
the enabled count stay. -/
theorem State.closeFrame_ft (s : State) (f : Frame) (cause : Cause) (empty : Bool) :
    (s.closeFrame f cause empty).ft
      = { s.ft with
          frames := s.ft.frames.filter fun x => x.number != f.number
          newest := some f.number
          discontinuity := if s.ft.discontinuity == some f.number then none else s.ft.discontinuity
          counters := s.ft.counters.countClose cause empty } := rfl

/-- A close keeps the session's state, record, serial, resume frame and timer. -/
theorem State.closeFrame_sess (s : State) (f : Frame) (cause : Cause) (empty : Bool) :
    let c := (s.closeFrame f cause empty).sess
    c.state = s.sess.state ∧ c.record = s.sess.record ∧ c.serial = s.sess.serial ∧ c.resume = s.sess.resume
      ∧ c.timer = s.sess.timer := ⟨rfl, rfl, rfl, rfl, rfl⟩

/-- A close leaves the path, the Command Unit, the straps, the ports and the waiting commands alone. -/
theorem State.closeFrame_frame (s : State) (f : Frame) (cause : Cause) (empty : Bool) :
    let t := s.closeFrame f cause empty
    t.path = s.path ∧ t.cmd = s.cmd ∧ t.straps = s.straps ∧ t.ports = s.ports ∧ t.report = s.report
      ∧ t.pending = s.pending := by
  simp [State.closeFrame, State.closeNumber, State.abandonBuffers, State.evaluateClose, State.produce,
    State.countClose, State.fileEither, State.fileAll]

/-- The close of one number, held or not, gives the same table but for the empty count. -/
theorem State.closeOne_ft (s : State) (g : Nat) (cause : Cause) :
    ∃ empty, (s.closeOne g cause).ft
      = { s.ft with
          frames := s.ft.frames.filter fun x => x.number != g
          newest := some g
          discontinuity := if s.ft.discontinuity == some g then none else s.ft.discontinuity
          counters := s.ft.counters.countClose cause empty } := by
  unfold State.closeOne
  cases h : s.ft.find g with
  | none => exact ⟨true, by simp only [State.closeFrame_ft]; rfl⟩
  | some f =>
    have hf : f.number = g := by simpa using List.find?_some h
    exact ⟨false, by simp only [State.closeFrame_ft, hf]⟩

theorem State.closeOne_frame (s : State) (g : Nat) (cause : Cause) :
    let t := s.closeOne g cause
    t.path = s.path ∧ t.cmd = s.cmd ∧ t.straps = s.straps ∧ t.ports = s.ports ∧ t.report = s.report
      ∧ t.pending = s.pending ∧ t.sess.state = s.sess.state ∧ t.sess.record = s.sess.record
      ∧ t.sess.serial = s.sess.serial ∧ t.sess.resume = s.sess.resume ∧ t.sess.timer = s.sess.timer := by
  have key : ∀ f empty, let t := s.closeFrame f cause empty
      t.path = s.path ∧ t.cmd = s.cmd ∧ t.straps = s.straps ∧ t.ports = s.ports ∧ t.report = s.report
        ∧ t.pending = s.pending ∧ t.sess.state = s.sess.state ∧ t.sess.record = s.sess.record
        ∧ t.sess.serial = s.sess.serial ∧ t.sess.resume = s.sess.resume ∧ t.sess.timer = s.sess.timer := by
    intro f empty
    obtain ⟨a, b, c, d, e, g⟩ := s.closeFrame_frame f cause empty
    obtain ⟨h, i, j, k, l⟩ := s.closeFrame_sess f cause empty
    exact ⟨a, b, c, d, e, g, h, i, j, k, l⟩
  unfold State.closeOne
  split
  · exact key _ _
  · exact key _ _

/-- Closing the `count` numbers from the next one on leaves no record below `g + count`, and no other is lost. -/
theorem State.closeRun_ft (cause : Cause) (count g : Nat) (s : State) :
    (State.closeRun cause count g s).ft.frames
        = s.ft.frames.filter (fun x => !(decide (g ≤ x.number) && decide (x.number < g + count)))
      ∧ (State.closeRun cause count g s).ft.newest = (if count = 0 then s.ft.newest else some (g + count - 1))
      ∧ (State.closeRun cause count g s).ft.reference = s.ft.reference
      ∧ (State.closeRun cause count g s).ft.enabled = s.ft.enabled := by
  induction count generalizing g s with
  | zero =>
    refine ⟨?_, rfl, rfl, rfl⟩
    rw [State.closeRun, eq_comm, List.filter_eq_self]
    intro x _
    simp
    omega
  | succ n ih =>
    obtain ⟨e, he⟩ := s.closeOne_ft g cause
    obtain ⟨h1, h2, h3, h4⟩ := ih (g + 1) (s.closeOne g cause)
    rw [State.closeRun]
    refine ⟨?_, ?_, ?_, ?_⟩
    · rw [h1, he, List.filter_filter]
      apply List.filter_congr
      intro x _
      rw [Bool.eq_iff_iff]
      simp
      omega
    · rw [h2, he, if_neg (Nat.succ_ne_zero n)]
      by_cases hn : n = 0
      · subst hn; simp
      · rw [if_neg hn]; congr 1; omega
    · rw [h3, he]
    · rw [h4, he]

theorem State.closeRun_frame (cause : Cause) (count g : Nat) (s : State) :
    let t := State.closeRun cause count g s
    t.path = s.path ∧ t.cmd = s.cmd ∧ t.straps = s.straps ∧ t.ports = s.ports ∧ t.report = s.report
      ∧ t.pending = s.pending ∧ t.sess.state = s.sess.state ∧ t.sess.record = s.sess.record
      ∧ t.sess.serial = s.sess.serial ∧ t.sess.resume = s.sess.resume ∧ t.sess.timer = s.sess.timer := by
  induction count generalizing g s with
  | zero => exact ⟨rfl, rfl, rfl, rfl, rfl, rfl, rfl, rfl, rfl, rfl, rfl⟩
  | succ n ih =>
    obtain ⟨a, b, c, d, e, f, g', h, i, j, k⟩ := s.closeOne_frame g cause
    obtain ⟨a', b', c', d', e', f', g'', h', i', j', k'⟩ := ih (g + 1) (s.closeOne g cause)
    exact ⟨a'.trans a, b'.trans b, c'.trans c, d'.trans d, e'.trans e, f'.trans f, g''.trans g', h'.trans h,
      i'.trans i, j'.trans j, k'.trans k⟩

/-! ### Opening (R41, R42) -/

theorem mem_insertFrame (f x : Frame) (l : List Frame) : x ∈ insertFrame f l ↔ x = f ∨ x ∈ l := by
  induction l with
  | nil => simp [insertFrame]
  | cons y ys ih =>
    unfold insertFrame
    split
    · simp
    · simp [ih]
      tauto

@[simp] theorem insertFrame_length (f : Frame) (l : List Frame) : (insertFrame f l).length = l.length + 1 := by
  induction l with
  | nil => rfl
  | cons y ys ih =>
    unfold insertFrame
    split <;> simp [ih]

/-- Inserting a new number keeps the records in number order. -/
theorem insertFrame_pairwise {f : Frame} {l : List Frame} (h : l.Pairwise fun a b => a.number < b.number)
    (hf : ∀ x ∈ l, x.number ≠ f.number) : (insertFrame f l).Pairwise fun a b => a.number < b.number := by
  induction l with
  | nil => simp [insertFrame]
  | cons y ys ih =>
    rw [List.pairwise_cons] at h
    unfold insertFrame
    have hy : y.number ≠ f.number := hf y (by simp)
    split
    · next hlt =>
      refine List.pairwise_cons.mpr ⟨?_, List.pairwise_cons.mpr h⟩
      intro z hz
      rcases List.mem_cons.mp hz with rfl | hz
      · exact hlt
      · exact hlt.trans (h.1 z hz)
    · next hge =>
      refine List.pairwise_cons.mpr ⟨?_, ih h.2 fun x hx => hf x (by simp [hx])⟩
      intro z hz
      rcases (mem_insertFrame f z ys).mp hz with rfl | hz
      · omega
      · exact h.1 z hz

end Sys2Proof.Machine
end

