-- ==== Sys2Proof/Laws/Path.lean ====
section
/-! SUPPORT. What the operations of the Path Unit can do: taking requests in, granting, issuing and completing. -/

namespace Sys2Proof.Machine

/-! ### Taking requests in (R131) -/

/-- Requests are taken in from the port in order, up to 32 in the forward queue. -/
theorem PathUnit.takeIn_spec (u : PathUnit) :
    u.takeIn.forward ++ u.takeIn.waiting = u.forward ++ u.waiting
      ∧ (u.forward.length ≤ 32 → u.takeIn.forward.length ≤ 32)
      ∧ (u.forward.length ≤ 32 → u.takeIn.waiting = [] ∨ u.takeIn.forward.length = 32)
      ∧ u.takeIn = { u with forward := u.takeIn.forward, waiting := u.takeIn.waiting } := by
  refine ⟨?_, ?_, ?_, rfl⟩
  · simp [PathUnit.takeIn]
  · intro h
    simp only [PathUnit.takeIn, forwardQueueSize, List.length_append, List.length_take]
    omega
  · intro h
    simp only [PathUnit.takeIn, forwardQueueSize, List.length_append, List.length_take, List.drop_eq_nil_iff]
    omega

/-- An arriving request is the last of all requests, with the order that was next. -/
theorem PathUnit.arrive_spec (u : PathUnit) (addr : Nat) (write : Option WriteData) (tag : BitVec 4) :
    let v := u.arrive addr write tag
    v.forward ++ v.waiting = u.forward ++ u.waiting ++ [⟨u.nextOrder, addr, tag, write⟩]
      ∧ v.nextOrder = u.nextOrder + 1
      ∧ v = { u with forward := v.forward, waiting := v.waiting, nextOrder := u.nextOrder + 1 } := by
  refine ⟨?_, rfl, rfl⟩
  have h := (PathUnit.takeIn_spec
    { u with waiting := u.waiting ++ [⟨u.nextOrder, addr, tag, write⟩], nextOrder := u.nextOrder + 1 }).1
  simpa [PathUnit.arrive] using h

/-- The head request leaves, and the others keep their order. -/
theorem PathUnit.dropHead_spec (u : PathUnit) :
    u.dropHead.forward ++ u.dropHead.waiting = u.forward.tail ++ u.waiting
      ∧ u.dropHead = { u with forward := u.dropHead.forward, waiting := u.dropHead.waiting } :=
  ⟨(PathUnit.takeIn_spec { u with forward := u.forward.tail }).1, rfl⟩

/-! ### Grants (R139, R140) -/

/-- A producer is ready when its queue has a head line that is eligible, and no ABANDONED header is owed that it is
not. -/
theorem PathUnit.isReady_iff (u : PathUnit) (p : Producer) :
    u.isReady p = true ↔ ∃ l rest, u.queues.get p = l :: rest ∧ u.isEligible l.addr l.order = true
      ∧ (u.abandonedFirst = false ∨ p = .response) := by
  unfold PathUnit.isReady
  split
  · next h => simp [h]
  · next l rest h => simp [h]

/-- A grant goes to passing traffic only where its head may go, to insertion only where the chosen queue has been
chosen, and to nobody only where neither can go. -/
theorem PathUnit.grant_cases (u : PathUnit) :
    (u.grant = .idle ∧ u.headEligible = false ∧ u.choose = none)
      ∨ (u.grant = .passing ∧ u.headEligible = true ∧ (u.choose = none ∨ u.share < u.shareLimit))
      ∨ ∃ p, u.grant = .inserted p ∧ u.choose = some p ∧ (u.headEligible = false ∨ u.shareLimit ≤ u.share) := by
  unfold PathUnit.grant
  cases hh : u.headEligible <;> cases hc : u.choose with
  | none => simp
  | some p =>
    first
    | simp; done
    | (by_cases hs : u.share < u.shareLimit
       · simp [hs]
       · simp [hs]; omega)

/-! ### Issue and completion (R133, R138) -/

/-- The head line of the queue leaves it, the other queues stay, and its record begins. -/
theorem PathUnit.issueInserted_spec {u : PathUnit} {p : Producer} {l : Inserted} {rest : List Inserted}
    (h : u.queues.get p = l :: rest) :
    (u.issueInserted p).queues.get p = rest
      ∧ (∀ q, q ≠ p → (u.issueInserted p).queues.get q = u.queues.get q)
      ∧ (u.issueInserted p).outstanding = u.outstanding ++ [⟨l.order, .inserted p, true, l.addr⟩]
      ∧ (u.issueInserted p).share = 0 ∧ (u.issueInserted p).forward = u.forward
      ∧ (u.issueInserted p).waiting = u.waiting ∧ (u.issueInserted p).nextOrder = u.nextOrder := by
  unfold PathUnit.issueInserted
  rw [h]
  exact ⟨PerProducer.get_set_self _ _ _, fun q hq => PerProducer.get_set_of_ne _ _ hq, rfl, rfl, rfl, rfl, rfl⟩

theorem PathUnit.findOutstanding_some {u : PathUnit} {order : Nat} {isWrite : Bool} {o : Outstanding}
    (h : u.findOutstanding order isWrite = some o) : o ∈ u.outstanding ∧ o.order = order ∧ o.isWrite = isWrite := by
  refine ⟨List.mem_of_find?_eq_some h, ?_⟩
  simpa using List.find?_some h

/-- The records of other requests stay when one ends. -/
theorem PathUnit.mem_endOutstanding (u : PathUnit) (order : Nat) (o : Outstanding) :
    o ∈ (u.endOutstanding order).outstanding ↔ o ∈ u.outstanding ∧ o.order ≠ order := by
  simp [PathUnit.endOutstanding]

/-! ### The safety mirror and refusals (R136, R142 to R144) -/

/-- A mirrored write is copied, or lost and counted; a write into a window without a mirror does neither. -/
theorem PathUnit.mirror_cases (u : PathUnit) (w : Nat) (r : WindowRecord) (addr : Nat) (d : WriteData)
    (closed : Option Nat) :
    (r.mirror = none ∧ u.mirror w r addr d closed = u)
      ∨ ∃ b, r.mirror = some b
        ∧ ((u.hasRoom .mirror = true
            ∧ u.mirror w r addr d closed = u.enqueue .mirror (b + (addr - r.base)) d .mirrorCopy)
          ∨ (u.hasRoom .mirror = false ∧ u.mirror w r addr d closed = u.countMirrorLoss w closed)) := by
  unfold PathUnit.mirror
  cases r.mirror with
  | none => simp
  | some b => cases u.hasRoom .mirror <;> simp

@[simp] theorem PathUnit.countRefusal_queues (u : PathUnit) (t : Nat) (closed : Option Nat) :
    (u.countRefusal t closed).queues = u.queues := by
  unfold PathUnit.countRefusal; split <;> rfl

@[simp] theorem PathUnit.countRefusal_forward (u : PathUnit) (t : Nat) (closed : Option Nat) :
    (u.countRefusal t closed).forward = u.forward := by
  unfold PathUnit.countRefusal; split <;> rfl

@[simp] theorem PathUnit.countRefusal_waiting (u : PathUnit) (t : Nat) (closed : Option Nat) :
    (u.countRefusal t closed).waiting = u.waiting := by
  unfold PathUnit.countRefusal; split <;> rfl

end Sys2Proof.Machine
end

