-- ==== Sys2Proof/WellFormed.lean ====
section
/-! DEFINITION. Which commands can reach the part: a request names a line by the address of its byte 0 (R131 and
the terms of 00_scope.md), a packet's sequence is 1..255, its body is at most 1008 bytes, and a counted body holds
as many entries as its one-byte count can say (R171, R172). -/

namespace Sys2Proof

/-- A packet sequence is 1..255 (R171). -/
def Byte.isSequence (seq : Byte) : Bool := seq != 0

/-- A line address is a multiple of 64 (00_scope.md, Conventions). -/
def isLineAddress (addr : BitVec 40) : Bool := addr.toNat % 64 == 0

/-- The checks of a command, field by field. -/
def WellFormed : Instr → Bool
  | .powerOnReset _ _ => true
  | .pathReset => true
  | .lineWrite addr _ _ _ => isLineAddress addr
  | .lineRead addr _ => isLineAddress addr
  | .passingRequestTake => true
  | .insertedLineForward => true
  | .writeDone _ => true
  | .writeRefused _ => true
  | .readData _ _ => true
  | .readRefused _ => true
  | .stallTimerExpiry => true
  | .setSession seq _ _ _ _ => seq.isSequence
  | .loadWindows seq _ body => seq.isSequence && decide (body.length ≤ 1008)
  | .loadTracks seq _ body => seq.isSequence && decide (body.length ≤ 1008)
  | .loadReleaseOrder seq tracks => seq.isSequence && decide (tracks.length ≤ 255)
  | .loadBus seq _ entries => seq.isSequence && decide (entries.length ≤ 251)
  | .setBusLevel seq entries => seq.isSequence && decide (entries.length ≤ 251)
  | .setBusMute seq _ _ => seq.isSequence
  | .setStream seq _ => seq.isSequence
  | .setArchive seq _ => seq.isSequence
  | .releaseSegment seq _ => seq.isSequence
  | .setReports seq _ => seq.isSequence
  | .setInsertion seq _ => seq.isSequence
  | .start seq => seq.isSequence
  | .stop seq => seq.isSequence
  | .pinSettings seq _ => seq.isSequence
  | .restart seq => seq.isSequence
  | .getFailReason seq => seq.isSequence
  | .getSession seq => seq.isSequence
  | .getTracks seq _ _ => seq.isSequence
  | .getWindows seq => seq.isSequence
  | .getMeters seq => seq.isSequence
  | .getStreams seq => seq.isSequence
  | .getArchive seq => seq.isSequence
  | .getResetCause seq => seq.isSequence
  | .drainingEnd => true
  | .commandEnd => true
  | .slotFilled => true
  | .segmentSettled => true
  | .responseLineEnqueue => true
  | .reportRecordWrite => true
  | .streamLineEnqueue => true
  | .archiveLineEnqueue => true

end Sys2Proof
end

