-- ==== Sys2Proof/Tests/Slice0.lean ====
section
/-! SUPPORT. The model's own tests: the smoke tests of WellFormed, the manual's worked examples, one step of each
command, and for every statement with hypotheses a witness that they can be met. Expected values are the manual's, by
the rule each test names. -/

namespace Sys2Proof.Tests

-- Without this Lean opens a thread for every theorem below, more than check.sh's limit on memory allows.
set_option Elab.async false

open Sys2Proof.Machine Sys2Proof.Spec

/-! ### Ill-formed commands are refused by the check -/

theorem test_writeAtUnalignedAddress : WellFormed (.lineWrite 65 0 0 0) = false := by decide
theorem test_readAtUnalignedAddress : WellFormed (.lineRead 1 0) = false := by decide
theorem test_setSessionSequenceZero : WellFormed (.setSession 0 64 1 1 100) = false := by decide
theorem test_loadWindowsSequenceZero : WellFormed (.loadWindows 0 .only []) = false := by decide
theorem test_loadWindowsLongBody : WellFormed (.loadWindows 1 .only (List.replicate 1009 0)) = false := by
  decide +kernel
theorem test_loadTracksLongBody : WellFormed (.loadTracks 1 .first (List.replicate 1009 0)) = false := by
  decide +kernel
theorem test_loadReleaseOrderLong : WellFormed (.loadReleaseOrder 1 (List.replicate 256 0)) = false := by
  decide +kernel
theorem test_loadBusLong : WellFormed (.loadBus 1 0 (List.replicate 252 ⟨0, 0⟩)) = false := by decide +kernel
theorem test_setBusLevelLong : WellFormed (.setBusLevel 1 (List.replicate 252 ⟨0, 0, 0⟩)) = false := by
  decide +kernel
theorem test_sequenceZeroIsRefused :
    ([.loadTracks 0 .only [], .loadReleaseOrder 0 [], .loadBus 0 0 [], .setBusLevel 0 [], .setBusMute 0 0 0,
      .setStream 0 ⟨0, 0, 0, 0, 0, 0, 0, 0, 0, 0, 0⟩, .setArchive 0 ⟨0, 0, 0, 0, 0⟩, .releaseSegment 0 1,
      .setReports 0 ⟨0, 0, 0, 0⟩, .setInsertion 0 ⟨0, 0, 0, 0, 0, 0⟩, .start 0, .stop 0, .pinSettings 0 0, .restart 0,
      .getFailReason 0, .getSession 0, .getTracks 0 0 1, .getWindows 0, .getMeters 0, .getStreams 0, .getArchive 0,
      .getResetCause 0] : List Instr).all (fun c => !WellFormed c) = true := by decide

/-- The table gives no row bits, so no word spells a command. -/
theorem test_noWordSpellsACommand : decodeTableWord 8 0 = none ∧ State.reset.withFetchWord 8 0 = State.reset :=
  ⟨rfl, rfl⟩

/-! ### The manual's worked values -/

/-- R29: the CRC of the bytes 0x31 to 0x39. -/
theorem test_crcOfTheNineDigits : crc32 [0x31, 0x32, 0x33, 0x34, 0x35, 0x36, 0x37, 0x38, 0x39] = 0xCBF43926 := by
  decide +kernel

/-- Worked Ramps: a fade-out at N = 64. -/
theorem test_rampFadesOut : [0, 1, 31, 62, 63].map (ramp 16384 0 64) = [16128, 15872, 8192, 256, 0] := by decide

/-- R68: halves round up, for negative values too. -/
theorem test_busValueRounds : [busValue (-8192), busValue (-8193), busValue (2 ^ 43)] = [0, -1, 8388607] := by decide

/-- R70. -/
theorem test_muteScaleRounds : [muteScale (-1) 8192, muteScale 1 8192] = [0, 1] := by decide

/-- R74, with the worked examples of Sections 4.7 and 4.10. -/
theorem test_sample16 :
    [sample16 (-128) 16384 0, sample16 (-129) 16384 0, sample16 875000 16384 (-193), sample16 875000 16384 0,
      sample16 8388607 16384 0] = [0, -1, 3417, 3418, 32767] := by decide

/-- Worked Dither Draws. -/
theorem test_ditherDraws :
    ditherAdvance 1 = 0xDB36C002 ∧ ditherAdvance 0xDB36C002 = 0xB6F6B6C3 ∧ ditherDraw 0xB6F6B6C3 = 195 := by
  decide +kernel

/-- Worked Mappings: slots of a window with S = 16 and its references. -/
theorem test_workedMappings :
    mapFrame 37 16 0 6 = 38 ∧ mapFrame 38 16 0 3 = 35 ∧ mapFrame 44 16 0 15 = 47 ∧ mapFrame 47 16 0 0 = 48
      ∧ mapFrame 0 16 0 12 = -4 ∧ mapFrame 4 16 0 12 = 12 := by decide

/-- R82: the mapping of residuals. -/
theorem test_mappedResiduals : [0, -1, 1, -2, 2].map mapResidual = [0, 1, 2, 3, 4] := by decide

/-- R83: the table of parameters. -/
theorem test_riceParameters :
    [riceParameter 62 0, riceParameter 64 63, riceParameter 64 127, riceParameter 64 600,
      riceParameter 253 16978542592] = [0, 0, 0, 3, 26] := by decide +kernel

/-- R81: constant values take order 1, a straight line order 2, zeros order 0. -/
theorem test_chosenOrders :
    chooseOrder (List.replicate 64 7) = 1 ∧ chooseOrder ((List.range 64).map fun n => (1000 + 5 * n : Int)) = 2
      ∧ chooseOrder (List.replicate 64 0) = 0 := by decide +kernel

/-- Section 5.6, A ramp. -/
theorem test_codedRamp :
    let c := codeBlock ((List.range 64).map fun n => (1000 + 5 * n : Int))
    (c.verbatim, c.order, c.parameter, c.bitLength) = (false, 2, 0, 110)
      ∧ c.payload = [0x00, 0xE8, 0x03, 0x00, 0x00, 0x00, 0xED, 0x03, 0, 0, 0, 0, 0, 0, 0, 0] := by decide +kernel

/-- Section 5.6: alternating full scale falls back to VERBATIM. -/
theorem test_verbatimFallback :
    (codeBlock ((List.range 64).map fun n => if n % 2 = 0 then (8388607 : Int) else -8388608)).verbatim = true := by
  decide +kernel

/-- R3: the samples of the two container formats. -/
theorem test_containers :
    samplesOf .left [9, 0xFE, 0xFF, 0xFF] = [-2] ∧ samplesOf .right [0x56, 0x34, 0x12, 9] = [1193046] := by decide

/-! ### Small states -/

/-- The state a command leaves. -/
def after (c : Instr) (s : State) : State :=
  match exec c s with
  | .next t => t
  | _ => s

/-- The command in progress, as a take of SetSession leaves it. -/
def busy : Working := ⟨9, 0x0011, 0, .none, [], false, 1⟩

/-- A state with a command in progress. -/
def busyState : State := { State.reset with cmd := { CommandUnit.reset with working := some busy } }

/-- Two lanes in four slots at address 4096. -/
def window0 : WindowRecord := ⟨4096, 2, 4, .left, none, 3⟩

/-- A session in state `st` with window 0 loaded and track 0 on its lane 0; `anchored` is the window's. -/
def session (st : SessionState) (anchored : Bool) : State :=
  { State.reset with
    sess :=
      { SessionControl.reset with
        state := st, record := some ⟨64, 2, 500, .r48k⟩, timer := some 7, resume := some 3
        windows := SessionControl.reset.windows.set 0
          { Window.unloaded with record := some window0, anchored := anchored } }
    tracks := State.reset.tracks.set 0 { Track.reset with record := ⟨true, some ⟨0, 0⟩, none, true, 1⟩, status := .active }
    ft := { FrameTable.reset with enabled := 1 } }

/-- Frame `g`, held, nothing in it. -/
def heldFrame (g : Nat) : Frame := ⟨g, false, [], some [], [], none, none, [], [], false, false⟩

/-- A running session that holds frame 0. -/
def holding (f : Frame) : State :=
  { session .running true with ft := { FrameTable.reset with frames := [f], enabled := 1 } }

/-- The state with one request in the forward queue. -/
def asked (s : State) (r : Passing) : State := { s with path := { s.path with forward := [r] } }

/-- A write of zeros to one line with every byte enabled. -/
def writeAt (addr : Nat) : Passing := ⟨0, addr, 3, some ⟨List.replicate 64 0, fullMask⟩⟩

/-- A line in an insertion queue. -/
def lineWith (note : Note) : Inserted := ⟨0, 8192, ⟨List.replicate 64 0, fullMask⟩, note⟩

/-- An archive area of four segments, the first data segment in state `x`. -/
def archived (x : SegState) (settled : Bool) : State :=
  { State.reset with
    aw :=
      { ArchiveWriter.reset with
        area := some ⟨1048576, 1, 4, 1, 2⟩
        segments := [⟨x, settled, .rolled, 1, 0, 5, 6, 640, 0, 0, 0, 1⟩,
          ⟨.free, true, .none, 0, 0, 0, 0, 0, 0, 0, 0, 2⟩, ⟨.free, true, .none, 0, 0, 0, 0, 0, 0, 0, 0, 3⟩] } }

/-- A stream of one bus in S16 with four slots of 192 bytes at 65536, and a session with N = 64. -/
def streaming (state : SlotState) (read : List Nat) : State :=
  { session .running true with
    sw :=
      { StreamWriter.reset with
        streams := StreamWriter.reset.streams.set 1
          { Stream.reset with
            record := some ⟨1, 1, 1, 0, 0, 0, 4, 0, 65536, 1, 5⟩
            slots := [⟨.free, [], false⟩, ⟨state, read, false⟩, ⟨.free, [], false⟩, ⟨.free, [], false⟩] } } }

/-- A settled state with report settings of every class at 8192, a ring of 16. -/
def reporting : State :=
  { State.reset with rw := { ReportWriter.reset with settings := some ⟨8192, 16, 0xFF, 0⟩ } }

/-! ### One step of each command -/

/-- The outcome of the command in progress. -/
def outcome (s : State) : Option (BitVec 16 × Reason) := s.cmd.working.map fun w => (w.flags, w.reason)

theorem test_powerOnReset : (after (.powerOnReset 5 true) busyState).straps = ⟨5, true⟩ := by decide +kernel
theorem test_pathReset : (after .pathReset (session .running true)).sess.state = .idle := by decide +kernel
theorem test_lineWrite :
    (after (.lineWrite 64 1 fullMask 3) State.reset).path.forward
      = [⟨0, 64, 3, some ⟨1 :: List.replicate 63 0, fullMask⟩⟩] := by decide +kernel
theorem test_lineRead : (after (.lineRead 128 4) State.reset).path.forward = [⟨0, 128, 4, none⟩] := by decide +kernel
theorem test_captureWriteOpensFrame :
    (after .passingRequestTake (asked (session .armed true) (writeAt 4096))).sess.state = .running := by decide +kernel
theorem test_guardRefusesResponseSlot :
    (after .passingRequestTake (asked State.reset (writeAt 1024))).ports.up = some ⟨3, .writeRefused⟩ := by
  decide +kernel
/-- R139: with nothing passing an inserted line is granted. -/
theorem test_insertedLine :
    (after .insertedLineForward
      { State.reset with path := { PathUnit.reset with queues := ⟨[], [lineWith (.record true)], [], [], []⟩ } }).ports
      = ⟨some ⟨8192, some ⟨List.replicate 64 0, fullMask⟩, 0⟩, none, true⟩ := by decide +kernel

/-- A state with one outstanding request. -/
def waitingFor (o : Outstanding) : State := { State.reset with path := { PathUnit.reset with outstanding := [o] } }

theorem test_writeDone :
    (after (.writeDone 0) (waitingFor ⟨0, .passing 6, true, 0⟩)).ports.up = some ⟨6, .writeDone⟩ := by decide +kernel
theorem test_writeRefused :
    (after (.writeRefused 0) (waitingFor ⟨0, .inserted .stream, true, 0⟩)).path.pathErrors.stream = 1 := by
  decide +kernel
theorem test_readData :
    (after (.readData 0 5) (waitingFor ⟨0, .passing 6, false, 0⟩)).ports.up = some ⟨6, .readData 5⟩ := by decide +kernel
theorem test_readRefused :
    (after (.readRefused 0) (waitingFor ⟨0, .passing 6, false, 0⟩)).ports.up = some ⟨6, .readRefused⟩ := by
  decide +kernel
theorem test_stallCloses :
    (after .stallTimerExpiry (holding (heldFrame 0))).sess.state = .stalled
      ∧ (after .stallTimerExpiry (holding (heldFrame 0))).ft.newest = some 0 := by decide +kernel
theorem test_setSessionClamps :
    (after (.setSession 1 64 4 2 5) State.reset).sess.record = some ⟨64, 4, 100, .r96k⟩ := by decide +kernel
theorem test_setSessionRefuses :
    outcome (after (.setSession 1 65 4 2 5) State.reset) = some (0x0080, .badValue) := by decide +kernel
theorem test_loadWindowsNeedsSession :
    outcome (after (.loadWindows 1 .only [0, 0, 0, 0]) State.reset) = some (0x0080, .notConfigured) := by decide +kernel
theorem test_loadTracks :
    ((after (.loadTracks 1 .only [1, 0, 0, 0, 5, 1, 0, 1, 0, 0, 0, 0, 2, 0, 0, 0])
        { session .idle true with tracks := State.reset.tracks }).tracks.getD 5 Track.reset).record
      = ⟨true, some ⟨0, 1⟩, none, false, 2⟩ := by decide +kernel
theorem test_loadTracksShort :
    outcome (after (.loadTracks 1 .only [2, 0, 0, 0]) State.reset) = some (0x0020, .none) := by decide +kernel
theorem test_loadReleaseOrder : (after (.loadReleaseOrder 1 [3, 0]) State.reset).aw.releaseOrder = [3, 0] := by
  decide +kernel
theorem test_loadReleaseOrderTwice :
    outcome (after (.loadReleaseOrder 1 [3, 3]) State.reset) = some (0x0080, .duplicateEntry) := by decide +kernel
theorem test_loadBus :
    ((after (.loadBus 1 2 [⟨5, 0xFFFF⟩]) State.reset).buses.map Bus.target)
      = [[], [], [⟨5, -1⟩], [], [], [], [], []] := by decide +kernel
theorem test_setBusLevelNeedsInput :
    outcome (after (.setBusLevel 1 [⟨0, 0, 5⟩]) State.reset) = some (0x0080, .badValue) := by decide +kernel
theorem test_setBusMute :
    ((after (.setBusMute 1 0x81 1) State.reset).buses.map Bus.muteTarget)
      = [true, false, false, false, false, false, false, true] := by decide +kernel
theorem test_setStreamClamps :
    ((((after (.setStream 1 ⟨1, 1, 1, 0, 0, 0, 4, 0, 65536, 9, 0⟩) State.reset).sw.streams.getD 1 Stream.reset).record).map
      fun b => (b.watermark, b.staleLimit)) = some (4, 1) := by decide +kernel
theorem test_setArchive :
    ((after (.setArchive 1 ⟨1048576, 1, 4, 1, 2⟩) State.reset).aw.segments.map Segment.updateSerial) = [1, 2, 3] := by
  decide +kernel
theorem test_setArchiveRefuses :
    outcome (after (.setArchive 1 ⟨0, 1, 4, 1, 2⟩) State.reset) = some (0x0080, .overlap) := by decide +kernel
theorem test_releaseSegment :
    ((after (.releaseSegment 1 1) (archived .closed true)).aw.segments.map Segment.state) = [.free, .free, .free] := by
  decide +kernel
theorem test_releaseOpenSegment :
    outcome (after (.releaseSegment 1 1) (archived .opened true)) = some (0x0080, .notClosed) := by decide +kernel
theorem test_setReports :
    ((after (.setReports 1 ⟨8192, 16, 0x01, 0x01⟩) State.reset).rw.queue.map fun f => (f.record.kind, f.record.second, f.pulse))
      = [(.startup, 16, true)] := by decide +kernel
theorem test_setInsertion :
    (after (.setInsertion 1 ⟨0, 1, 2, 3, 0, 0⟩) State.reset).path.levels = ⟨0, 1, 2, 3, 0⟩
      ∧ (after (.setInsertion 1 ⟨0, 1, 2, 3, 0, 0⟩) State.reset).path.shareLimit = 1 := by decide +kernel
theorem test_start :
    (after (.start 1) (session .idle true)).sess.state = .armed
      ∧ (after (.start 1) (session .idle true)).sess.serial = 1 := by decide +kernel
theorem test_startNeedsSession :
    outcome (after (.start 1) State.reset) = some (0x0080, .notConfigured) := by decide +kernel
theorem test_stopInArmed : (after (.stop 1) (session .armed true)).sess.state = .idle := by decide +kernel
theorem test_stopInRunning : (after (.stop 1) (holding (heldFrame 0))).sess.state = .draining := by decide +kernel
theorem test_pinSettings : (after (.pinSettings 1 1) State.reset).cmd.pin = true := by decide +kernel
theorem test_restart : (after (.restart 1) (session .running true)).sess.record = none := by decide +kernel
theorem test_getFailReason :
    ((after (.getFailReason 1) { State.reset with cmd := { CommandUnit.reset with failReason := .overlap } }).cmd.working.map
      Working.body) = some [3] := by decide +kernel
theorem test_getSession :
    ((after (.getSession 1) State.reset).cmd.working.map fun w => w.body.length) = some 187 := by decide +kernel
theorem test_getTracks :
    ((after (.getTracks 1 120 24) State.reset).cmd.working.map fun w => w.body.take 2) = some [8, 120] := by decide +kernel
theorem test_getWindows :
    ((after (.getWindows 1) State.reset).cmd.working.map fun w => w.body.length) = some 976 := by decide +kernel
theorem test_getMeters :
    ((after (.getMeters 1) State.reset).cmd.working.map fun w => w.body.length) = some 128 := by decide +kernel
theorem test_getStreams : outcome (after (.getStreams 1) State.reset) = some (0, .none) := by decide +kernel
theorem test_getArchive :
    ((after (.getArchive 1) (archived .closed true)).cmd.working.map fun w => w.body.length) = some 85 := by decide +kernel
theorem test_getResetCause : (after (.getResetCause 1) State.reset).cmd.causes = ⟨false, false, false⟩ := by
  decide +kernel
theorem test_drainingEnd :
    (after .drainingEnd { busyState with sess := (session .draining true).sess }).sess.state = .idle := by decide +kernel
theorem test_commandEnd : (after .commandEnd { busyState with report := some .commandEnd }).cmd.working = none := by
  decide +kernel
theorem test_slotFilled :
    ((after .slotFilled { streaming .filling [] with report := some (.slotFilled 1 1 0) }).sw.streams.getD 1 Stream.reset).slots
      = [⟨.free, [], false⟩, ⟨.filled, [], false⟩, ⟨.free, [], false⟩, ⟨.free, [], false⟩] := by decide +kernel
theorem test_segmentSettled :
    ((after .segmentSettled { archived .closed false with report := some (.segmentSettled 1) }).aw.segments.map
      Segment.settled) = [true, true, true] := by decide +kernel
theorem test_responseLineEnqueue :
    ((after .responseLineEnqueue
      { busyState with cmd := { busyState.cmd with out := [.finalHeader] } }).path.queues.response.map
        fun l => (l.addr, l.write.data.take 4, l.note)) = [(1024, [9, 2, 0x11, 0], .finalHeader)] := by decide +kernel
theorem test_reportRecordWrite :
    ((after .reportRecordWrite
      { reporting with rw := { reporting.rw with index := 1, queue := [⟨⟨.stall, 0, some 7, 1, 500⟩, false⟩] } }
      ).path.queues.report.map fun l => (l.addr, l.write.mask)) = [(8192, 0xFFFFFFFF00000000)] := by decide +kernel
theorem test_streamLineEnqueue :
    ((after .streamLineEnqueue
      { State.reset with sw := { StreamWriter.reset with out := [⟨1, 1, 0, 65728, 1, [[7], [8]], [9]⟩] } }
      ).path.queues.stream.map fun l => (l.addr, l.write.data)) = [(65792, [7])] := by decide +kernel
theorem test_archiveLineEnqueue :
    ((after .archiveLineEnqueue
      { State.reset with aw := { ArchiveWriter.reset with out := [.directory 1048576 [1] .directoryHeader] } }
      ).path.queues.archive.map fun l => (l.addr, l.note)) = [(1048576, .directoryHeader)] := by decide +kernel

/-- The idle step of the stall timer (assumption 2). -/
theorem test_idleStep :
    (match step (session .running true) with
      | .next t => t.sess.timer
      | _ => none) = some 6 := by decide +kernel

/-! ### Witnesses: states and operands that meet each statement's hypotheses -/

/-- A settled READY state with no sequence open takes a packet. -/
theorem witness_Reaches : Reaches State.reset 1 ∧ Reaches (session .idle true) 255 ∧ Reaches (session .running true) 1 := by
  decide +kernel

theorem witness_StepRunsTheFrontCommand :
    ({ State.reset with pending := [.stop 1, .pathReset] } : State).pending = .stop 1 :: [.pathReset] := rfl

theorem witness_IdleStepCountsOneMicrosecond :
    ((session .running true).pending = [] ∧ Settled (session .running true)
        ∧ (session .running true).sess.state = .running ∧ (session .running true).sess.timer = some 7)
      ∧ (let s : State := { session .running true with sess := { (session .running true).sess with timer := some 1 } };
        s.pending = [] ∧ Settled s ∧ s.sess.state = .running ∧ s.sess.timer = some 1)
      ∧ State.reset.pending = [] ∧ Settled State.reset ∧ State.reset.sess.state ≠ .running := by decide +kernel

theorem witness_OwedEventsAreTakenFirst :
    (∃ s t : State, s.report = some .commandEnd ∧ actsAlone .pathReset = false
        ∧ exec (rowOfReport .commandEnd) s = .next t)
      ∧ ∃ s t : State, s.report = none ∧ s.drainOver = true ∧ exec .drainingEnd s = .next t :=
  ⟨⟨{ busyState with report := some .commandEnd }, _, rfl, rfl, rfl⟩,
    ⟨{ busyState with sess := (session .draining true).sess },
      after .drainingEnd { busyState with sess := (session .draining true).sess }, rfl, by decide +kernel, rfl⟩⟩

theorem witness_UnsubmittedPacketChangesNothing :
    (sequenceOf (.stop 1) = some 1 ∧ Settled (State.powerOn 0 true) ∧ (State.powerOn 0 true).straps.passOnly = true)
      ∧ (sequenceOf (.stop 0) = some 0 ∧ Settled State.reset)
      ∧ sequenceOf (.getTracks 9 0 1) = some 9
      ∧ Settled { State.reset with cmd := { CommandUnit.reset with lastTaken := 9 } } := by decide +kernel

theorem witness_SubmissionWhileWorkingIsAnOverrun :
    (sequenceOf (.start 1) = some 1 ∧ Settled busyState ∧ busyState.straps.passOnly = false
        ∧ busyState.cmd.working = some busy ∧ (1 : Byte) ≠ 0 ∧ 1 ≠ busyState.cmd.lastTaken)
      ∧ busy.flags.getLsbD 8 = false ∧ busy.finalEnqueued = false
      ∧ (let w : Working := { busy with finalEnqueued := true };
        let s : State := { State.reset with cmd := { CommandUnit.reset with working := some w } };
        Settled s ∧ s.cmd.working = some w ∧ w.flags.getLsbD 8 = false ∧ w.finalEnqueued = true) := by decide +kernel

/-- A state with an open LoadTracks sequence of `n` staged bytes. -/
def openTracks (n : Nat) : State :=
  { State.reset with cmd := { CommandUnit.reset with openSequence := some ⟨.loadTracks, 1, List.replicate n 0⟩ } }

theorem witness_SinglePartPacketBreaksAnOpenSequence :
    sequenceOf (.getMeters 1) = some 1 ∧ singleFunction (.getMeters 1) = some .getMeters ∧ Settled (openTracks 4)
      ∧ Takes (openTracks 4) 1 ∧ (openTracks 4).cmd.openSequence = some ⟨.loadTracks, 1, [0, 0, 0, 0]⟩ := by decide +kernel

theorem witness_TablePartsAreStagedInOrder :
    (Settled State.reset ∧ Takes State.reset 1 ∧ State.reset.cmd.openSequence = none
        ∧ (List.replicate 1008 (0 : Byte)).length ≤ 1008 ∧ 1008 < (List.replicate 1009 (0 : Byte)).length
        ∧ ([2, 0, 0, 0] : List Byte).length ≠ 4 + 12 * (([2, 0, 0, 0] : List Byte).getD 0 0).toNat)
      ∧ Settled (openTracks 3088) ∧ Takes (openTracks 3088) 1
      ∧ (openTracks 3088).cmd.openSequence = some ⟨.loadTracks, 1, List.replicate 3088 0⟩
      ∧ (List.replicate 3088 (0 : Byte)).length + (List.replicate 1008 (0 : Byte)).length = 4096
      ∧ Settled (openTracks 3089) ∧ Takes (openTracks 3089) 1
      ∧ 4096 < (List.replicate 3089 (0 : Byte)).length + (List.replicate 1008 (0 : Byte)).length
      ∧ Function.loadTracks ≠ .loadWindows := by decide +kernel

theorem witness_LastPartRunsTheAssembledTable :
    (Settled (openTracks 3) ∧ Takes (openTracks 3) 1 ∧ (openTracks 3).cmd.openSequence = some ⟨.loadTracks, 1, [0, 0, 0]⟩
        ∧ ([0, 0, 0] ++ [0] : List Byte).length = 4 + 12 * (([0, 0, 0] ++ [0] : List Byte).getD 0 0).toNat)
      ∧ Settled (openTracks 5) ∧ Takes (openTracks 5) 1 ∧ (openTracks 5).cmd.openSequence = some ⟨.loadTracks, 1, List.replicate 5 0⟩
      ∧ (List.replicate 5 0 ++ [] : List Byte).length ≠ 4 + 12 * ((List.replicate 5 0 ++ [] : List Byte).getD 0 0).toNat := by
  decide +kernel

/-- The header line of a GetResetCause packet with sequence 1. -/
def packetLine : WriteData := ⟨[1, 0x32, 0, 0, 0x88, 0, 0, 0, 0, 0] ++ List.replicate 54 0, fullMask⟩

/-- A header line with sequence 1: kind, part, reserved byte, function number, length and check field. -/
def headerLine (kind part reserved : Byte) (number length check : Nat) : List Byte :=
  [1, kind, part, reserved] ++ leBytes 2 number ++ leBytes 2 length ++ leBytes 2 check ++ List.replicate 54 0

/-- The state with that line copied from a write to line 0 of the Command Slot. -/
def copied (s : State) (line : List Byte) : State := { s with cmd := s.cmd.copy 0 ⟨line, fullMask⟩ }

theorem witness_PacketBytesRunTheRowTheyName :
    (let r : Passing := ⟨0, 0, 3, some packetLine⟩; let s := asked State.reset r;
      Settled s ∧ s.straps.passOnly = false ∧ s.path.forward = [r] ∧ GrantsPassing s.path ∧ s.sess.windowsAt 0 = []
        ∧ s.aw.guards 0 = none ∧ packetLine.mask.getLsbD 0 = true)
      ∧ (∃ t, let u := copied State.reset packetLine.data;
        Settled State.reset ∧ Takes u (byteAt u.cmd.buffer 0)
          ∧ checkPacket u.cmd.buffer u.cmd.coverage = .ok ⟨.getResetCause, .only, []⟩
          ∧ lengthFits .getResetCause [] = true
          ∧ exec (rowOf .getResetCause (byteAt u.cmd.buffer 0) []) u = .next t)
      ∧ (let u := copied (openTracks 4) (headerLine 0x33 0 0 0x88 0 0);
        Settled (openTracks 4) ∧ Takes u (byteAt u.cmd.buffer 0)
          ∧ checkPacket u.cmd.buffer u.cmd.coverage = .error 0x0002)
      ∧ (let u := copied State.reset (headerLine 0x32 0 0 0x88 1 0);
        Takes u (byteAt u.cmd.buffer 0) ∧ checkPacket u.cmd.buffer u.cmd.coverage = .ok ⟨.getResetCause, .only, [0]⟩
          ∧ lengthFits .getResetCause [0] = false ∧ State.reset.cmd.openSequence = none)
      ∧ (let u := copied State.reset (headerLine 0x31 1 0 0x13 1 0);
        Takes u (byteAt u.cmd.buffer 0) ∧ checkPacket u.cmd.buffer u.cmd.coverage = .ok ⟨.loadTracks, .first, [0]⟩)
      ∧ (let u := copied busyState packetLine.data;
        Settled busyState ∧ ¬ Takes u (byteAt u.cmd.buffer 0)
          ∧ sequenceOf (.getResetCause 1) = some (byteAt u.cmd.buffer 0)) :=
  ⟨by decide +kernel, ⟨_, by decide +kernel, by decide +kernel, by decide +kernel, by decide +kernel, rfl⟩,
    by decide +kernel, by decide +kernel, by decide +kernel, by decide +kernel⟩

theorem witness_PacketChecksAcceptExactly :
    (∀ x ∈ [(headerLine 0x32 0 0 0x88 0 0, (0xFFFF : BitVec 16), Except.ok ⟨.getResetCause, .only, []⟩),
        (headerLine 0x33 0 0 0x88 0 0, 0xFFFF, .error 0x0002), (headerLine 0x32 0 1 0x88 0 0, 0xFFFF, .error 0x0002),
        (headerLine 0x31 0 0 0x99 0 0, 0xFFFF, .error 0x0008), (headerLine 0x31 0 0 0x88 0 0, 0xFFFF, .error 0x0002),
        (headerLine 0x32 1 0 0x88 0 0, 0xFFFF, .error 0x0004), (headerLine 0x31 4 0 0x12 0 0, 0xFFFF, .error 0x0004),
        (headerLine 0x31 3 0 0x12 1009 0, 0xFFFF, .error 0x0010), (headerLine 0x31 0 0 0x13 49 0, 1, .error 0x0010),
        (headerLine 0x31 0 0 0x13 48 1, 1, .error 0x0001)], checkPacket (x.1 ++ List.replicate 960 0) x.2.1 = x.2.2)
      ∧ (∀ fn : Function, fn.number ≠ 0x99) ∧ Function.loadWindows.number = 0x12 ∧ Function.loadTracks.number = 0x13 :=
  ⟨by decide +kernel, fun fn => by cases fn <;> decide, rfl, rfl⟩

theorem witness_CommandSlotWriteIsCopied :
    (let s := asked State.reset (writeAt 960);
      Settled s ∧ s.straps.passOnly = false ∧ s.path.forward = [writeAt 960] ∧ GrantsPassing s.path
        ∧ s.sess.windowsAt 960 = [] ∧ s.aw.guards 960 = none ∧ s.cmd.buffer.length = 1024)
      ∧ (let r : Passing := ⟨0, 0, 3, some ⟨List.replicate 64 7, 2⟩⟩;
        let s := asked State.reset r;
        Settled s ∧ s.path.forward = [r] ∧ GrantsPassing s.path ∧ (2 : BitVec 64).getLsbD 0 = false) := by decide +kernel

theorem witness_ResponseLinesCarryHeaderAndBody :
    ({ busy with body := List.replicate 1008 0 } : Working).body.length ≤ 1008 ∧ busy.body.length ≤ 1008 := by
  decide +kernel

/-- One window of four lanes. -/
def windowEntry : WindowEntry := ⟨15, 4, 64, 1, true, 0, 4096, 1048576⟩

/-- The state with `n` staged bytes of the table `body` of function `fn`. -/
def stagedPart (s : State) (fn : Function) (n : Nat) (body : List Byte) : State :=
  { s with cmd := { s.cmd with openSequence := some ⟨fn, 1, body.take n⟩ } }

theorem witness_LoadWindowsResult :
    (Settled (session .idle true) ∧ Takes (session .idle true) 1 ∧ (session .idle true).cmd.openSequence = none
        ∧ [windowEntry].length ≤ 41 ∧ ∀ e ∈ [windowEntry], windowEntryFits e)
      ∧ (let es := List.replicate 42 windowEntry; let s := stagedPart (session .idle true) .loadWindows 4 (windowsBytes es);
        Settled s ∧ Takes s 1 ∧ s.cmd.openSequence = some ⟨.loadWindows, 1, (windowsBytes es).take 4⟩
          ∧ ((windowsBytes es).drop 4).length ≤ 1008 ∧ es.length ≤ 170 ∧ ∀ e ∈ es, windowEntryFits e)
      ∧ ∀ b : List Byte, b.take 4 ++ b.drop 4 = b :=
  ⟨by decide +kernel, by decide +kernel, List.take_append_drop 4⟩

theorem witness_LoadTracksResult :
    let e : TrackEntry := ⟨127, 1, ⟨0, 0⟩, 1, ⟨0, 1⟩, 1, 0⟩;
    (Settled (session .idle true) ∧ Takes (session .idle true) 1 ∧ (session .idle true).cmd.openSequence = none
        ∧ (List.replicate 83 e).length ≤ 83 ∧ ∀ x ∈ List.replicate 83 e, trackEntryFits x)
      ∧ ∀ n ∈ [128, 129],
        let body := tracksBytes (List.replicate n e); let s := stagedPart (session .idle true) .loadTracks 1000 body;
        Settled s ∧ Takes s 1 ∧ s.cmd.openSequence = some ⟨.loadTracks, 1, body.take 1000⟩
          ∧ (body.drop 1000).length ≤ 1008 ∧ body.take 1000 ++ body.drop 1000 = body := by
  decide +kernel

theorem frameOrder_holding (f : Frame) (h : f.number = 0) : (holding f).FrameOrder :=
  ⟨fun h => absurd rfl h, ⟨show 1 ≤ 2 by decide, show 2 ≤ 4 by decide⟩, by simp [holding],
    by intro x hx; obtain rfl := List.mem_singleton.mp hx; rw [h]; exact ⟨Nat.le_refl 0, Nat.le_refl 0⟩,
    fun _ => show 0 < 0 + 2 by decide⟩

theorem witness_StopEndsASession :
    (Reaches State.reset 1 ∧ State.reset.sess.state = .idle)
      ∧ (Reaches (session .armed true) 1 ∧ (session .armed true).sess.state = .armed)
      ∧ (Reaches (holding (heldFrame 0)) 1 ∧ (holding (heldFrame 0)).sess.state = .running
        ∧ (holding (heldFrame 0)).FrameOrder ∧ (holding (heldFrame 0)).aw.InArea)
      ∧ Reaches (session .stalled true) 1 ∧ (session .stalled true).FrameOrder ∧ (session .stalled true).aw.InArea :=
  ⟨by decide +kernel, by decide +kernel,
    ⟨by decide +kernel, rfl, frameOrder_holding _ rfl, ⟨rfl, by decide +kernel⟩⟩,
    by decide +kernel,
    ⟨by decide +kernel, by decide +kernel, by simp [session, FrameTable.reset], by decide +kernel, by decide +kernel⟩,
    ⟨rfl, by decide +kernel⟩⟩

/-- What Stop makes of `s` before it closes the frames. -/
def ending (s : State) : State :=
  { taken s 1 .stop with
    sess := { s.sess with state := .draining, timer := none }
    rw := filed s.rw ⟨.sessionState, 0, none, 4, if s.sess.state = .running then 2 else 3⟩ }

theorem witness_StopClosesTheOpenSegment :
    ((ending (holding (heldFrame 0))).closeAll .stop).aw.openSegment = none
      ∧ (let s : State := { session .stalled true with aw := (archived .opened true).aw };
        Reaches s 1 ∧ s.sess.state = .stalled ∧ ((ending s).closeAll .stop).aw.openSegment = some (0 + 1)
          ∧ (((ending s).closeAll .stop).aw.segments[0]?).isSome = true
          ∧ ((ending s).closeAll .stop).aw.area = some ⟨1048576, 1, 4, 1, 2⟩) := by decide +kernel

theorem witness_busFunctions : Reaches State.reset 1 ∧ State.reset.buses.length = 8 := by decide +kernel

theorem witness_ReleaseSegmentResult :
    (Reaches State.reset 1 ∧ State.reset.aw.area = none)
      ∧ (let s := archived .closed true;
        Reaches s 1 ∧ s.aw.area = some ⟨1048576, 1, 4, 1, 2⟩ ∧ s.aw.segments.length = 4 - 1 ∧ 4 ≤ (4 : BitVec 16).toNat
          ∧ ∃ x, s.aw.segments[(1 : BitVec 16).toNat - 1]? = some x ∧ x.state = .closed ∧ x.settled = true)
      ∧ (let s := archived .closed false;
        Reaches s 1 ∧ ∃ x ∈ s.aw.segments[(1 : BitVec 16).toNat - 1]?, x.state ≠ .closed ∨ x.settled = false) :=
  ⟨by decide +kernel, ⟨by decide +kernel, rfl, rfl, by decide, _, rfl, rfl, rfl⟩,
    ⟨by decide +kernel, _, rfl, .inr rfl⟩⟩

/-- An OPEN segment with one frame of 64 bytes forwarded, and its directory record pending in the Archive queue. -/
def halfForwarded : State :=
  { archived .opened true with
    cmd := { CommandUnit.reset with pin := true }
    path := { PathUnit.reset with queues := ⟨[], [], [], [], [lineWith (.directoryRecord 1 .opened)]⟩ } }

theorem inArea_halfForwarded : halfForwarded.aw.InArea := ⟨rfl, by decide +kernel⟩

theorem witness_RestartResult :
    Reaches (session .running true) 1 ∧ (session .running true).cmd.pin = false
      ∧ Reaches halfForwarded 1 ∧ halfForwarded.cmd.pin = true ∧ halfForwarded.aw.updateSerial ≤ 4294967295
      ∧ (resetArchive halfForwarded.aw halfForwarded.path.queues.archive true).out.length = 2 := by decide +kernel

theorem witness_queries :
    Reaches State.reset 1 ∧ State.reset.path.mirrorLoss.length = 16
      ∧ State.reset.sess.windows.length = 16 ∧ State.reset.buses.length = 8 := by decide +kernel

theorem witness_PathResetEndsTheSession :
    (Settled (State.powerOn 0 true) ∧ (State.powerOn 0 true).straps.passOnly = true)
      ∧ (Settled busyState ∧ busyState.straps.passOnly = false ∧ busyState.cmd.working ≠ none)
      ∧ Settled halfForwarded ∧ halfForwarded.straps.passOnly = false ∧ halfForwarded.aw.updateSerial ≤ 4294967295
      ∧ (resetArchive halfForwarded.aw halfForwarded.path.queues.archive false).out.length = 1 := by decide +kernel

/-- A full forward queue, with one request at the port. -/
def fullPort : State :=
  { State.reset with path := { PathUnit.reset with forward := List.replicate 32 (writeAt 0), waiting := [writeAt 64] } }

theorem witness_ArrivingRequestTakesTheNextOrder :
    (Settled State.reset ∧ State.reset.path.waiting = []) ∧ Settled fullPort ∧ 32 ≤ fullPort.path.forward.length := by
  decide +kernel

/-- The session with window 0 mirrored at 65536. -/
def mirrored (st : SessionState) : State :=
  { session st true with
    sess :=
      { (session st true).sess with
        windows := SessionControl.reset.windows.set 0
          { Window.unloaded with record := some { window0 with mirror := some 65536 } } } }

theorem witness_UnownedRequestIsOnlyForwarded :
    (let s := asked (State.powerOn 0 true) (writeAt 0);
      Settled s ∧ s.path.forward = [writeAt 0] ∧ s.straps.passOnly = true)
      ∧ (let s := asked State.reset (writeAt 2048);
        Settled s ∧ GrantsPassing s.path ∧ ∀ q ∈ s.regions, ¬ (q.base ≤ 2048 ∧ 2048 < q.base + q.length))
      ∧ (let s := asked State.reset ⟨0, 64, 3, none⟩;
        Settled s ∧ GrantsPassing s.path ∧ s.streamsAt 64 = [])
      ∧ ∀ x ∈ [(mirrored .running, 65536), (streaming .filled [], 65536), (reporting, 8192), (archived .free true, 2097152)],
        let s := asked x.1 (writeAt x.2);
        Settled s ∧ GrantsPassing s.path ∧ (∃ q ∈ s.regions, q.base ≤ x.2 ∧ x.2 < q.base + q.length)
          ∧ (writeAt x.2).write.isSome = true ∧ s.sess.windowsAt x.2 = [] ∧ s.aw.guards x.2 = none
          ∧ ¬ InCommandSlot s x.2 ∧ ¬ InResponseSlot s x.2 := by decide +kernel

/-- One line of `note` in queue `p`, and nothing else to grant. -/
def queued (p : Producer) (note : Note) : State :=
  { State.reset with
    path := { PathUnit.reset with queues := (⟨[], [], [], [], []⟩ : PerProducer (List Inserted)).set p [lineWith note] } }

/-- A mirror copy and a passing write to another line, the share counter at P − 1 or at P. -/
def sharing (share : Nat) : State :=
  let s := asked (queued .mirror .mirrorCopy) (writeAt 64)
  { s with path := { s.path with share := share } }

/-- A passing write to the line of a mirror copy, with the later entry order. -/
def heldHead : State := asked (queued .mirror .mirrorCopy) { writeAt 8192 with order := 1 }

theorem witness_PassingIsNotGranted :
    (Settled State.reset ∧ State.reset.path.forward = [])
      ∧ ∀ s ∈ [sharing 4, heldHead],
        Settled s ∧ s.path.forward ≠ [] ∧ s.straps.passOnly = false ∧ ¬ GrantsPassing s.path := by decide +kernel

/-- The head of the forward queue is eligible beside a line of its own address that entered later, not beside one that
entered before it. -/
theorem witness_Eligible :
    Eligible (asked (queued .mirror .mirrorCopy) (writeAt 8192)).path 8192 0 ∧ heldHead.path.headEligible = false :=
  ⟨⟨by decide +kernel, fun p => by cases p <;> decide +kernel⟩, by decide +kernel⟩

theorem witness_GuardedWriteIsRefused :
    (let s := asked State.reset (writeAt 2047);
      Settled s ∧ s.straps.passOnly = false ∧ GrantsPassing s.path ∧ InResponseSlot s 2047)
      ∧ (let s := asked (archived .closed true) (writeAt 2097152);
        Settled s ∧ s.straps.passOnly = false ∧ GrantsPassing s.path ∧ ¬ InResponseSlot s 2097152)
      ∧ InGuardedSegment (asked (archived .closed true) (writeAt 2097152)) 2097152 1
      ∧ InGuardedSegment (asked (archived .free true) (writeAt 1048576)) 1048576 0 :=
  ⟨by decide +kernel, by decide +kernel,
    ⟨_, rfl, by decide, by decide, by decide, .inr ⟨_, rfl, by decide⟩⟩,
    ⟨_, rfl, by decide, by decide, by decide, .inl rfl⟩⟩

theorem witness_CompletionsAreReturnedOrKept :
    (Settled State.reset ∧ ∀ o ∈ State.reset.path.outstanding, o.order ≠ 0)
      ∧ ∀ o ∈ [(⟨0, .passing 6, true, 0⟩ : Outstanding), ⟨0, .passing 6, false, 0⟩, ⟨0, .inserted .archive, true, 0⟩],
        Settled (waitingFor o) ∧ o ∈ (waitingFor o).path.outstanding ∧ o.order = 0
          ∧ ∀ x ∈ (waitingFor o).path.outstanding, x.order = 0 → x = o := by decide +kernel

theorem witness_GrantedLineIsForwarded :
    ∀ x ∈ [(Producer.response, Note.finalHeader), (.stream, .streamHeader 1 1 0), (.archive, .directoryRecord 1 .closed),
        (.archive, .frameEnd 1 0 1 64), (.report, .record true), (.mirror, .mirrorCopy)],
      Settled (queued x.1 x.2) ∧ GrantsInserted (queued x.1 x.2).path x.1
        ∧ (queued x.1 x.2).path.queues.get x.1 = [lineWith x.2] := by decide +kernel

/-- With nothing queued, and with the share not used up, no queue is granted; a queued ABANDONED header keeps the other
queues unready. -/
theorem witness_NoLineIsGranted :
    (∀ s ∈ [State.reset, sharing 3], Settled s ∧ ∀ p ∈ Producer.all, ¬ GrantsInserted s.path p)
      ∧ (queued .mirror .mirrorCopy).path.isReady .mirror = true
      ∧ ({ (queued .mirror .mirrorCopy).path with abandonedFirst := true } : PathUnit).isReady .mirror = false := by
  decide +kernel

/-- The mirrored session with `n` lines in the Mirror queue and these recorded numbers. -/
def mirrorQueue (st : SessionState) (n : Nat) (notes : List OnceNote) : State :=
  { mirrored st with
    path :=
      { PathUnit.reset with queues := ⟨[], [], [], List.replicate n (lineWith .mirrorCopy), []⟩, mirrorNotes := notes } }

theorem witness_MirrorCopiesFollowTheWindow :
    (∀ s0 ∈ [mirrored .idle, mirrored .running, mirrored .armed, mirrorQueue .idle 64 [], mirrorQueue .stalled 63 [],
        mirrorQueue .running 64 [⟨0, none⟩], mirrorQueue .running 64 [⟨0, some 3⟩]],
      let s := asked s0 (writeAt 4096);
      Settled s ∧ s.straps.passOnly = false ∧ GrantsPassing s.path ∧ s.aw.guards 4096 = none
        ∧ ¬ InCommandSlot s 4096 ∧ ¬ InResponseSlot s 4096 ∧ s.sess.windowsAt 4096 = [0] ∧ s.ft.newest = none
        ∧ (s.sess.window 0).record = some { window0 with mirror := some 65536 })
      ∧ (let r : Passing := ⟨0, 6080, 3, some ⟨List.replicate 64 0, 0⟩⟩;
        let s := asked (mirrored .running) r;
        Settled s ∧ GrantsPassing s.path ∧ s.sess.windowsAt 6080 = [0]) := by decide +kernel

/-- The last line of lane `lane` in slot 3, taken in session state `st`. -/
theorem takesWindowWrite (st : SessionState) (anchored : Bool) (lane : Nat) (hl : lane < 2)
    (hd : (asked (session st anchored) (writeAt (4096 + (3 * 2 + lane) * 256 + 64 * 3))).drainOver = false) :
    TakesWindowWrite (asked (session st anchored) (writeAt (4096 + (3 * 2 + lane) * 256 + 64 * 3)))
      (writeAt (4096 + (3 * 2 + lane) * 256 + 64 * 3)) ⟨List.replicate 64 0, fullMask⟩ 0 window0 3 lane 3 where
  settled := ⟨rfl, hd⟩
  active := rfl
  head := rfl
  granted := by
    cases st <;> cases anchored <;> interval_cases lane <;> decide +kernel
  write := rfl
  enabled := by decide
  unguarded := rfl
  apart := by
    have hb : (asked (session st anchored) (writeAt (4096 + (3 * 2 + lane) * 256 + 64 * 3))).straps.baseSel = 0 := rfl
    have ha : 2048 ≤ (writeAt (4096 + (3 * 2 + lane) * 256 + 64 * 3)).addr := by simp [writeAt]; omega
    generalize (writeAt (4096 + (3 * 2 + lane) * 256 + 64 * 3)).addr = a at ha
    unfold InCommandSlot InResponseSlot
    rw [hb]
    simp
    omega
  alone := by
    cases st <;> cases anchored <;> interval_cases lane <;> decide +kernel
  record := rfl
  block := show 64 % 64 = 0 from rfl
  place := rfl
  within := ⟨by decide, hl, show 3 < 64 / 16 by decide⟩

theorem witness_WindowWritesMoveTheSession :
    (∀ x ∈ (session .running true).tracks, ¬ Names x ⟨0, 1⟩) ∧ window0.mirror = none ∧ window0.slots % 2 = 0
      ∧ (∃ x ∈ (session .running true).tracks, Names x ⟨0, 0⟩)
      ∧ (session .running false).sess.resume = some 3 ∧ ((session .running false).sess.window 0).anchored = false
      ∧ ((session .running true).sess.window 0).anchored = true
      ∧ (session .stalled true).ft.newest ≠ some 4294967295 ∧ nextNumber (session .stalled true) ≤ 4294967295
      ∧ ({ session .stalled true with ft := { FrameTable.reset with newest := some 4294967295 } } : State).sess.state = .stalled
      ∧ ∀ lane < 2, ∀ st ∈ [SessionState.idle, .armed, .running, .stalled], ∀ anchored,
        let r := writeAt (4096 + (3 * 2 + lane) * 256 + 64 * 3);
        TakesWindowWrite (asked (session st anchored) r) r ⟨List.replicate 64 0, fullMask⟩ 0 window0 3 lane 3 :=
  ⟨by decide +kernel, rfl, rfl, ⟨_, List.mem_cons_self, by decide⟩, rfl, rfl, rfl, by decide, by decide, rfl,
    fun lane hl st hst anchored => takesWindowWrite st anchored lane hl (by
      fin_cases hst <;> cases anchored <;> interval_cases lane <;> decide +kernel)⟩

/-- The draining session still has a line of a stream frame to enqueue. -/
theorem witness_WindowWritesInDraining :
    let s : State := { asked (session .draining true) (writeAt 4096) with
      sw := { StreamWriter.reset with out := [⟨0, 0, 0, 0, 1, [], []⟩] } };
    Settled s ∧ s.sess.state = .draining ∧ GrantsPassing s.path ∧ s.sess.windowsAt 4096 = [0] := by decide +kernel

/-- The frame and anchor that slot 3 maps to in `holding (heldFrame 3)`. -/
def capturing (f : Frame) (buffers : List Buffer) : State :=
  { session .running true with
    ft := { FrameTable.reset with frames := [f], reference := 3, enabled := 1 }, buffers := buffers }

/-- Slot 3 of the window of `s` maps to frame `f`. -/
abbrev MapsTo (s : State) (f : Int) : Prop :=
  let reference := (s.sess.window 0).reference.getD s.ft.reference
  (s.sess.window 0).anchored = true ∧ f % window0.slots = ((3 + (s.sess.window 0).anchor : Nat) : Int) % window0.slots
    ∧ (reference : Int) < f + (window0.slots / 2 : Nat) ∧ f ≤ reference + (window0.slots / 2 : Nat)

/-- A whole buffer for block (0, 0) of frame 3, and one with no byte covered. -/
def bufferOf (cover : BitVec 64) : Buffer := ⟨0, 0, 3, List.replicate 4 ⟨List.replicate 64 0, cover⟩⟩

theorem witness_CaptureWriteIsAssembled :
    (∀ s ∈ [capturing (heldFrame 3) [], capturing { heldFrame 3 with completed := [⟨0, 0⟩] } [],
        capturing { heldFrame 3 with failed := [⟨0, 0⟩] } [], capturing (heldFrame 3) [bufferOf 0],
        capturing (heldFrame 3) [bufferOf fullMask], capturing (heldFrame 3) (List.replicate 256 ⟨0, 1, 3, []⟩)],
      (∃ x ∈ s.tracks, Names x ⟨0, 0⟩) ∧ s.sess.state = .running ∧ MapsTo s 3 ∧ nextNumber s ≤ 3
        ∧ (s.ft.find 3).isSome = true)
      ∧ ((bufferOf fullMask).lines.flatMap BufferLine.data).length = 4 * 64
      ∧ (∀ l ∈ (bufferOf fullMask).lines, l.cover = fullMask) ∧ window0.slots % 2 = 0
      ∧ TakesWindowWrite (asked (session .running true) (writeAt 5824)) (writeAt 5824) ⟨List.replicate 64 0, fullMask⟩ 0
        window0 3 0 3 :=
  ⟨by decide +kernel, by decide +kernel, by decide +kernel, rfl,
    takesWindowWrite .running true 0 (by decide) (by decide +kernel)⟩

theorem witness_CaptureWriteIsStrayLateOrOpens :
    MapsTo (session .running true) (-1)
      ∧ (let s : State := { session .stalled true with ft := { FrameTable.reset with newest := some 4294967295 } };
        s.sess.state = .stalled ∧ s.ft.newest = some 4294967295)
      ∧ (let s : State := { capturing (heldFrame 3) [] with ft := { FrameTable.reset with newest := some 3, reference := 3 } };
        MapsTo s 3 ∧ 3 < nextNumber s)
      ∧ (∀ st ∈ [SessionState.armed, .running],
        let s : State := { session st true with ft := { FrameTable.reset with reference := 1, enabled := 1 } };
        MapsTo s 3 ∧ nextNumber s ≤ 3 ∧ s.ft.find 3 = none ∧ 1 ≤ s.sess.lateness ∧ s.aw.area = none)
      ∧ nextNumber (session .running true) + (session .running true).sess.lateness ≤ 3
      ∧ 1 < nextNumber (session .running true) + (session .running true).sess.lateness := by decide +kernel

theorem witness_Due :
    (∃ f, Due (holding { heldFrame 0 with wins := [⟨0, .primary, 5⟩] }) f) ∧ ∀ f, ¬ Due (holding (heldFrame 0)) f :=
  ⟨⟨_, rfl, rfl⟩, fun f h => by
    obtain rfl : heldFrame 0 = f := Option.some.inj h.1
    exact absurd h.2 (by decide)⟩

theorem witness_FirstCopyWinsAndSecondIsCompared :
    ∀ f ∈ [heldFrame 0, { heldFrame 0 with wins := [⟨0, .primary, 5⟩] }],
      let s := holding f;
      s.FrameOrder ∧ (∃ x, s.tracks[0]? = some x ∧ Names x ⟨0, 0⟩) ∧ s.ft.find 0 = some f := by
  intro f hf
  fin_cases hf
  · exact ⟨frameOrder_holding _ rfl, ⟨_, rfl, by decide⟩, rfl⟩
  · exact ⟨frameOrder_holding _ rfl, ⟨_, rfl, by decide⟩, rfl⟩

theorem witness_FirstCopyIsOfOneTrack :
    ∀ k y, (holding (heldFrame 0)).tracks[k]? = some y → Names y ⟨0, 0⟩ → k = 0 := by
  intro k y h hn
  by_contra hk
  have hy : y = Track.reset := by
    have hs : (holding (heldFrame 0)).tracks
        = Track.mk ⟨true, some ⟨0, 0⟩, none, true, 1⟩ .active 0 none 0 0 0 0 :: List.replicate 127 Track.reset := by
      decide +kernel
    obtain ⟨j, rfl⟩ := Nat.exists_eq_succ_of_ne_zero hk
    rw [hs, List.getElem?_cons_succ] at h
    exact List.eq_of_mem_replicate (List.mem_of_getElem? h)
  subst hy
  exact absurd hn.1 (by decide)

theorem witness_StatusIsEvaluatedAtAClose :
    let s := session .running true;
    (∃ x y, s.tracks[0]? = some x ∧ x.record.enabled = true ∧ s.sess.windows[0]? = some y ∧ y.record = some window0)
      ∧ (∃ x, s.tracks[127]? = some x ∧ x.record.enabled = false)
      ∧ (∃ w, ({ heldFrame 0 with wins := [⟨0, .primary, 5⟩] } : Frame).winner 0 = some w)
      ∧ (heldFrame 0).winner 0 = none
      ∧ (∃ lane, ∃ z ∈ s.tracks, Names z ⟨0, lane⟩)
      ∧ (holding (heldFrame 0)).ft.find 0 = some (heldFrame 0) ∧ (holding (heldFrame 0)).ft.find 1 = none :=
  ⟨⟨_, _, rfl, rfl, rfl, rfl⟩, ⟨_, rfl, rfl⟩, ⟨_, rfl⟩, rfl, ⟨0, _, List.mem_cons_self, by decide⟩, rfl, rfl⟩

theorem witness_StatusOfAWindowWithoutSourceLane :
    let s := session .running true;
    (∃ y, s.sess.windows[1]? = some y ∧ y.record = none) ∧ ∀ z ∈ s.tracks, ∀ lane, ¬ Names z ⟨1, lane⟩ := by
  refine ⟨⟨_, rfl, rfl⟩, ?_⟩
  have h : ∀ z ∈ (session .running true).tracks, ∀ p ∈ [z.record.primary, z.record.alternate], ∀ q ∈ p, q.window = 0 := by
    decide +kernel
  rintro z hz lane ⟨-, hn | hn⟩
  · exact absurd (h z hz _ List.mem_cons_self _ hn) (by simp)
  · exact absurd (h z hz _ (List.mem_cons_of_mem _ List.mem_cons_self) _ hn) (by simp)

theorem witness_StallClosesEveryFrame :
    (Settled (holding (heldFrame 0)) ∧ (holding (heldFrame 0)).sess.state = .running)
      ∧ (holding (heldFrame 0)).FrameOrder ∧ (Settled State.reset ∧ State.reset.sess.state ≠ .running)
      ∧ (holding (heldFrame 0)).ft.frames ≠ []
      ∧ ((holding (heldFrame 0)).ft.frames.Pairwise fun a b => a.number < b.number)
      ∧ (∀ f ∈ (holding (heldFrame 0)).ft.frames, nextNumber (holding (heldFrame 0)) ≤ f.number)
      ∧ State.reset.ft.frames = [] :=
  ⟨by decide +kernel, frameOrder_holding _ rfl, by decide +kernel, by simp [holding], by simp [holding],
    by decide +kernel, rfl⟩

theorem witness_DrainingEndsWhenAllHasLeft :
    (let s : State := { busyState with sess := (session .draining true).sess };
      s.sess.state = .draining ∧ s.cmd.working ≠ none ∧ s.sw.out = [] ∧ s.path.queues.stream = []
        ∧ (∀ x ∈ s.sw.streams, ∀ q ∈ x.slots, q.state ≠ .filling) ∧ s.aw.out = [] ∧ s.path.queues.archive = []
        ∧ (∀ x ∈ s.aw.segments, x.state ≠ .opened) ∧ s.aw.closing = none)
      ∧ State.reset.sess.state ≠ .draining := by decide +kernel

theorem witness_EndedCommandAndSettledSegmentAreRecorded :
    (let s : State := { busyState with report := some .commandEnd };
      s.cmd.working = some busy ∧ s.report = some .commandEnd)
      ∧ (let s : State := { archived .closed false with report := some (.segmentSettled 1) };
        ∃ x, s.report = some (.segmentSettled (0 + 1)) ∧ s.aw.segments[0]? = some x)
      ∧ State.reset.report = none :=
  ⟨⟨rfl, rfl⟩, ⟨_, rfl, rfl⟩, rfl⟩

theorem witness_FilledSlotAdvancesTheRing :
    let s : State := { streaming .filling [] with report := some (.slotFilled 1 1 0) };
    ∃ x b q, s.report = some (.slotFilled 1 1 0) ∧ s.sw.streams[1]? = some x ∧ x.record = some b ∧ b.enabled = 1
      ∧ x.slots[1]? = some q ∧ q.state = .filling :=
  ⟨_, _, _, rfl, rfl, rfl, rfl, rfl, rfl⟩

theorem witness_ResponseAndStreamLinesAreEnqueued :
    (let s : State := { busyState with cmd := { busyState.cmd with out := [.line 1 [], .finalHeader] } };
      Settled s ∧ s.path.queues.response.length < 16 ∧ s.cmd.out = .line 1 [] :: [.finalHeader])
      ∧ (let s : State := { busyState with cmd := { busyState.cmd with out := [.finalHeader] } };
        Settled s ∧ s.cmd.out = .finalHeader :: [] ∧ s.cmd.working = some busy)
      ∧ (∀ payload ∈ [[[7]], []],
        let o : StreamOut := ⟨1, 1, 0, 65728, 1, payload, [9]⟩;
        let s : State := { State.reset with sw := { StreamWriter.reset with out := [o] } };
        Settled s ∧ s.path.queues.stream.length < 32 ∧ s.sw.out = o :: [] ∧ o.payload = payload)
      ∧ 32 ≤ ({ PathUnit.reset with queues := ⟨[], [], List.replicate 32 (lineWith .streamPayload), [], []⟩ } :
          PathUnit).queues.stream.length := by decide +kernel

/-- An archive frame of 128 bytes, `offset` of them gone. -/
def frameItem (offset : Nat) : FrameItem := ⟨0, 1, 2097152, 128, offset, List.replicate 32 0, [.absent 0], 1, 128⟩

theorem witness_ArchiveLinesAreEnqueued :
    (let s : State := { State.reset with aw := { ArchiveWriter.reset with out := [.directory 64 [] .directoryHeader] } };
      Settled s ∧ s.path.queues.archive.length < 64 ∧ s.aw.out = .directory 64 [] .directoryHeader :: [])
      ∧ (∀ offset ∈ [0, 64],
        let s : State := { State.reset with aw := { ArchiveWriter.reset with out := [.frame (frameItem offset)] } };
        Settled s ∧ s.aw.out = .frame (frameItem offset) :: [])
      ∧ 64 ≤ ({ PathUnit.reset with queues := ⟨[], [], [], [], List.replicate 64 (lineWith .frameLine)⟩ } :
          PathUnit).queues.archive.length := by decide +kernel

/-- An archiving Archive Writer of four segments of 1 MiB, the first data segment in state `x` with `used` bytes. -/
def archiving (x : SegState) (used : Nat) : ArchiveWriter :=
  { (archived x true).aw with
    archiving := true
    releaseOrder := [0]
    segments := (archived x true).aw.segments.modify 0 fun y => { y with used := used } }

/-- One absent track makes an archive frame of 64 bytes: it fits up to 1,048,512 bytes into a segment. -/
theorem witness_ArchiveTakes :
    (archived .free true).aw.archiving = false
      ∧ ((archiving .free 0).archiving = true ∧ ({ heldFrame 0 with drop := some ⟨0, 208⟩ } : Frame).drop = some ⟨0, 208⟩)
      ∧ ((archiving .free 0).area = some ⟨1048576, 1, 4, 1, 2⟩ ∧ ∀ x ∈ (archiving .free 0).segments, x.state ≠ .opened)
      ∧ ∀ used ∈ [0, 1048512, 1048576], (archiving .opened used).archiving = true ∧ (heldFrame 0).drop = none
        ∧ ∃ x ∈ (archiving .opened used).segments[0]?, x.state = .opened ∧ x.used = used
          ∧ (used + (32 + 16 + 63) / 64 * 64 ≤ 1 * 1048576 ↔ used ≠ 1048576) := by decide +kernel

theorem witness_ArchiveTakesOneOpen :
    ∀ m y, (archiving .opened 0).segments[m]? = some y → y.state = .opened → m = 0
  | 0, _, _, _ => rfl
  | 1, y, h, ho => by
    obtain rfl := Option.some.inj h
    exact absurd ho (by decide)
  | 2, y, h, ho => by
    obtain rfl := Option.some.inj h
    exact absurd ho (by decide)
  | m + 3, _, h, _ => absurd h (by simp [archiving, archived])

theorem witness_HeadRecordIsWrittenToTheRing :
    (let f : FiledRecord := ⟨⟨.stall, 0, none, 1, 500⟩, true⟩;
      let s : State := { reporting with rw := { reporting.rw with queue := [f], index := 15 } };
      Settled s ∧ s.rw.settings = some ⟨8192, 16, 0xFF, 0⟩ ∧ s.rw.queue = f :: [] ∧ s.path.queues.report.length < 8)
      ∧ Settled State.reset ∧ State.reset.rw.settings = none := by decide +kernel

theorem witness_RingReadMarksItsLine :
    ∀ s ∈ [streaming .filled [0, 1], streaming .filled [], streaming .filling []],
      let r : Passing := ⟨0, 65536 + 1 * 192 + 64 * 2, 3, none⟩;
      Settled (asked s r) ∧ GrantsPassing (asked s r).path ∧ (asked s r).streamsAt r.addr = [1]
        ∧ (asked s r).sess.blockSize % 64 = 0 ∧ 64 * 2 < 64 + (asked s r).sess.blockSize * 1 * 2 := by decide +kernel

theorem witness_arithmetic :
    (63 < 64 ∧ 0 ≤ 16384 ∧ 16384 ≤ 16384)
      ∧ [((0 : Nat), [(1 : Int)]), (1, [2])].Perm [(1, [2]), (0, [1])]
      ∧ AreSamples [8388607, -8388608, 0, 1] ∧ 3 + 0 < [(8388607 : Int), -8388608, 0, 1].length :=
  ⟨by decide, List.Perm.swap _ _ _, by decide, by decide⟩

/-- A frame of two samples with one bus, of which track 0 is an input. -/
def mixedFrame : Frame :=
  { heldFrame 0 with snapshot := some [⟨[⟨0, 0, 16384⟩], 16384, 0⟩], accumulators := [[0, 2 ^ 43]] }

theorem witness_finalisation :
    (∃ snaps p acc, mixedFrame.snapshot = some snaps ∧ snaps[0]? = some p ∧ mixedFrame.accumulators[0]? = some acc
        ∧ acc.length = 2 ∧ (p.inputs.find? fun i => i.track == 0) = some ⟨0, 0, 16384⟩
        ∧ (p.inputs.find? fun i => i.track == 1) = none ∧ snaps.length = [Bus.reset].length)
      ∧ mixedFrame.accumulators.length = [Bus.reset].length ∧ (∀ acc ∈ mixedFrame.accumulators, acc.length = 2)
      ∧ (emptyFrame 0 false).snapshot = none :=
  ⟨⟨_, _, _, rfl, rfl, rfl, rfl, rfl, rfl, rfl⟩, rfl, by decide, rfl⟩

theorem witness_ArchivedBlockIsRebuiltExactly :
    ∀ n ∈ [64, 128, 256], (List.replicate n (-8388608 : Int)).length = n
      ∧ AreSamples (List.replicate n (-8388608)) := by decide +kernel

theorem witness_Safe : State.reset.Safe :=
  ⟨⟨by decide, .inl rfl, by decide, by decide, by decide, by decide, by decide⟩, ⟨rfl, by decide⟩, by
    show State.reset.rw.queue.length ≤ recordQueueSize
    decide, fun q h => absurd (show none = some q from h) (by simp),
    ⟨rfl, rfl, rfl, rfl, rfl, by decide⟩⟩

theorem witness_EveryStepKeepsTheCapacities :
    ∃ s t : State, s.Safe ∧ step s = .next t := ⟨State.reset, _, witness_Safe, rfl⟩

theorem witness_EveryStepKeepsTheFrameOrder :
    ∃ s t : State, s.FrameOrder ∧ step s = .next t := ⟨holding (heldFrame 0), _, frameOrder_holding _ rfl, rfl⟩

end Sys2Proof.Tests
end

section
/-! The order of the Frame Table (R40, R41, R45): what of a state it reads, what R45 says of a state in order, and how
the closes move the view. -/

namespace Sys2Proof.Machine

/-! ### What the order reads of a state -/

/-- What the order of the Frame Table reads of a state: the session's state and lateness allowance, the held numbers,
the oldest number that can still close, and the session reference. -/
structure OrderView where
  state : SessionState
  lateness : Nat
  numbers : List Nat
  next : Nat
  reference : Nat

def State.orderView (s : State) : OrderView :=
  ⟨s.sess.state, s.sess.lateness, s.ft.frames.map Frame.number, s.ft.nextNumber, s.ft.reference⟩

/-- The held numbers increase within the reach of the lateness allowance. This is all of the order but that records
are held in RUNNING alone, which fails for a moment while a session enters or leaves RUNNING. -/
structure OrderView.Spaced (v : OrderView) : Prop where
  allowance : 1 ≤ v.lateness ∧ v.lateness ≤ 4
  order : v.numbers.Pairwise (· < ·)
  bounds : ∀ n ∈ v.numbers, v.next ≤ n ∧ n ≤ v.reference
  reach : v.state ≠ .idle → v.reference < v.next + v.lateness

theorem State.frameOrder_iff (s : State) :
    s.FrameOrder ↔ s.orderView.Spaced ∧ (s.orderView.state ≠ .running → s.orderView.numbers = []) := by
  constructor
  · rintro ⟨held, allowance, order, bounds, reach⟩
    exact ⟨⟨allowance, List.pairwise_map.mpr order, List.forall_mem_map.mpr bounds, reach⟩,
      fun h => List.map_eq_nil_iff.mpr (held h)⟩
  · rintro ⟨⟨allowance, order, bounds, reach⟩, held⟩
    exact ⟨fun h => List.map_eq_nil_iff.mp (held h), allowance, List.pairwise_map.mp order,
      List.forall_mem_map.mp bounds, reach⟩

theorem State.FrameOrder.spaced {s : State} (h : s.FrameOrder) : s.orderView.Spaced := (s.frameOrder_iff.mp h).1

/-- The frame rule: what leaves the view alone keeps the order. -/
theorem State.FrameOrder.of_view {s t : State} (h : s.FrameOrder) (hv : t.orderView = s.orderView) : t.FrameOrder := by
  rwa [State.frameOrder_iff, hv, ← State.frameOrder_iff]

theorem State.frameOrder_of_running {s : State} (h : s.orderView.Spaced) (hs : s.sess.state = .running) :
    s.FrameOrder := s.frameOrder_iff.mpr ⟨h, fun hn => absurd hs hn⟩

theorem State.frameOrder_of_empty {s : State} (h : s.orderView.Spaced) (he : s.orderView.numbers = []) :
    s.FrameOrder := s.frameOrder_iff.mpr ⟨h, fun _ => he⟩

/-- In IDLE the reference is not bounded, so a state that holds nothing is in order whatever it was. -/
theorem State.frameOrder_of_idle {s : State} (hs : s.sess.state = .idle) (he : s.ft.frames = [])
    (hl : 1 ≤ s.sess.lateness ∧ s.sess.lateness ≤ 4) : s.FrameOrder where
  held := fun _ => he
  allowance := hl
  order := by simp [he]
  bounds := by simp [he]
  reach := fun h => absurd hs h

/-- The session's state may change freely once a session lasts. -/
theorem OrderView.Spaced.withState {v : OrderView} (h : v.Spaced) (hs : v.state ≠ .idle) (x : SessionState) :
    OrderView.Spaced { v with state := x } where
  allowance := h.allowance
  order := h.order
  bounds := h.bounds
  reach := fun _ => h.reach hs

/-! ### What R45 says of a state in order -/

/-- Increasing numbers from `low` up to below `low + width` are at most `width`. -/
theorem length_le_of_increasing {l : List Nat} {low width : Nat} (h : l.Pairwise (· < ·))
    (hb : ∀ n ∈ l, low ≤ n ∧ n < low + width) : l.length ≤ width := by
  have hnodup : l.Nodup := h.imp Nat.ne_of_lt
  have hsub : l ⊆ List.range' low width := fun n hn => List.mem_range'_1.mpr (hb n hn)
  simpa using (hnodup.subperm hsub).length_le

/-- While a record is held the session runs, so the reference is within reach. -/
theorem State.FrameOrder.number_lt {s : State} (h : s.FrameOrder) {f : Frame} (hf : f ∈ s.ft.frames) :
    f.number < s.ft.nextNumber + s.sess.lateness := by
  have hidle : s.sess.state ≠ .idle := fun hs => by simp [h.held (by simp [hs])] at hf
  exact (h.bounds f hf).2.trans_lt (h.reach hidle)

theorem State.FrameOrder.length_le {s : State} (h : s.FrameOrder) : s.ft.frames.length ≤ s.sess.lateness := by
  rw [← List.length_map (f := Frame.number)]
  refine length_le_of_increasing h.spaced.order (low := s.ft.nextNumber) (List.forall_mem_map.mpr fun f hf => ?_)
  exact ⟨(h.bounds f hf).1, h.number_lt hf⟩

theorem State.FrameOrder.newest_lt {s : State} (h : s.FrameOrder) {f : Frame} (hf : f ∈ s.ft.frames) {g : Nat}
    (hg : s.ft.newest = some g) : g < f.number := by
  have hnext := (h.bounds f hf).1
  rwa [FrameTable.nextNumber_of_some hg] at hnext

theorem State.FrameOrder.number_le {s : State} (h : s.FrameOrder) {f g : Frame} (hf : f ∈ s.ft.frames)
    (hg : g ∈ s.ft.frames) : g.number ≤ f.number + (s.sess.lateness - 1) := by
  have hlow := (h.bounds f hf).1
  have hhigh := h.number_lt hg
  omega

/-! ### Closing: the view moves up to a limit (R43, R47) -/

/-- Every number below `limit` has closed. -/
def OrderView.closeTo (v : OrderView) (limit : Nat) : OrderView :=
  { v with numbers := v.numbers.filter fun n => decide (limit ≤ n), next := max v.next limit }

theorem OrderView.mem_closeTo {v : OrderView} {limit n : Nat} :
    n ∈ (v.closeTo limit).numbers ↔ n ∈ v.numbers ∧ limit ≤ n := by
  simp [OrderView.closeTo]

theorem OrderView.closeTo_closeTo (v : OrderView) (a b : Nat) : (v.closeTo a).closeTo b = v.closeTo (max a b) := by
  simp [OrderView.closeTo, List.filter_filter, Nat.max_assoc, Bool.and_comm]

theorem OrderView.Spaced.closeTo_of_le {v : OrderView} (h : v.Spaced) {limit : Nat} (hle : limit ≤ v.next) :
    v.closeTo limit = v := by
  have hall : v.numbers.filter (fun n => decide (limit ≤ n)) = v.numbers :=
    List.filter_eq_self.mpr fun n hn => decide_eq_true (hle.trans (h.bounds n hn).1)
  simp [OrderView.closeTo, hall, hle]

theorem OrderView.Spaced.closeTo {v : OrderView} (h : v.Spaced) (limit : Nat) : (v.closeTo limit).Spaced where
  allowance := h.allowance
  order := h.order.filter _
  bounds := fun n hn => by
    obtain ⟨hmem, hlimit⟩ := OrderView.mem_closeTo.mp hn
    exact ⟨max_le (h.bounds n hmem).1 hlimit, (h.bounds n hmem).2⟩
  reach := fun hs => (h.reach hs).trans_le (Nat.add_le_add_right (le_max_left _ _) _)

theorem OrderView.Spaced.of_closeTo {v w : OrderView} (h : v.Spaced) {limit : Nat} (hw : w = v.closeTo limit) :
    w.Spaced := hw ▸ h.closeTo limit

theorem State.FrameOrder.of_closeTo {s t : State} (h : s.FrameOrder) {limit : Nat}
    (hv : t.orderView = s.orderView.closeTo limit) : t.FrameOrder := by
  obtain ⟨hspaced, hheld⟩ := s.frameOrder_iff.mp h
  refine t.frameOrder_iff.mpr ⟨hspaced.of_closeTo hv, fun hs => ?_⟩
  rw [hv] at hs ⊢
  have hnone := hheld hs
  simp [OrderView.closeTo, hnone]

/-- The close of the oldest unclosed number. -/
theorem State.closeFrame_orderView {s : State} (h : s.orderView.Spaced) {f : Frame}
    (hf : f.number = s.orderView.next) (cause : Cause) (empty : Bool) :
    (s.closeFrame f cause empty).orderView = s.orderView.closeTo (f.number + 1) := by
  have hnumbers : (s.ft.frames.filter fun x => x.number != f.number).map Frame.number
      = (s.ft.frames.map Frame.number).filter fun n => decide (f.number + 1 ≤ n) := by
    rw [List.filter_map]
    congr 1
    refine List.filter_congr fun x hx => ?_
    have hlow := (h.bounds x.number (List.mem_map_of_mem hx)).1
    rw [Bool.eq_iff_iff]
    simp
    omega
  have hnext : (s.closeFrame f cause empty).ft.nextNumber = max s.ft.nextNumber (f.number + 1) := by
    rw [FrameTable.nextNumber_of_some (congrArg FrameTable.newest (s.closeFrame_ft f cause empty))]
    exact (max_eq_right (hf.symm.trans_le (Nat.le_succ _))).symm
  obtain ⟨hstate, hrecord, -⟩ := s.closeFrame_sess f cause empty
  simp only [State.orderView, OrderView.closeTo, hnext, ← hnumbers, SessionControl.lateness, hstate, hrecord]
  rw [State.closeFrame_ft]

theorem State.closeOne_orderView {s : State} (h : s.orderView.Spaced) (cause : Cause) :
    (s.closeOne s.orderView.next cause).orderView = s.orderView.closeTo (s.orderView.next + 1) := by
  unfold State.closeOne
  split
  · next f hfind =>
    have hnumber : f.number = s.orderView.next := by simpa using List.find?_some hfind
    rw [State.closeFrame_orderView h hnumber, hnumber]
  · exact State.closeFrame_orderView h rfl cause true

theorem State.closeRun_orderView (cause : Cause) (count : Nat) {s : State} (h : s.orderView.Spaced) :
    (State.closeRun cause count s.orderView.next s).orderView = s.orderView.closeTo (s.orderView.next + count) := by
  induction count generalizing s with
  | zero => exact (h.closeTo_of_le le_rfl).symm
  | succ count ih =>
    have hone := State.closeOne_orderView h cause
    have hnext : (s.closeOne s.orderView.next cause).orderView.next = s.orderView.next + 1 := by
      rw [hone]
      exact max_eq_right (Nat.le_succ _)
    have hrest := ih (h.of_closeTo hone)
    rw [hnext, hone, OrderView.closeTo_closeTo, max_eq_right (Nat.le_add_right _ _)] at hrest
    rw [State.closeRun, hrest, Nat.add_assoc, Nat.add_comm 1]

/-- R43: the closes of every unclosed number below a limit. -/
theorem State.closeBelow_orderView {s : State} (h : s.orderView.Spaced) (limit : Nat) (cause : Cause) :
    (s.closeBelow limit cause).orderView = s.orderView.closeTo limit := by
  have hrun : (s.closeBelow limit cause).orderView
      = s.orderView.closeTo (s.orderView.next + (limit - s.orderView.next)) := State.closeRun_orderView cause _ h
  rcases le_total limit s.orderView.next with hle | hle
  · rw [hrun, h.closeTo_of_le hle, Nat.sub_eq_zero_of_le hle, Nat.add_zero, h.closeTo_of_le le_rfl]
  · rw [hrun, Nat.add_sub_cancel' hle]

/-- Every number that a closing up to `limit` closes is held. -/
def OrderView.HeldBelow (v : OrderView) (limit : Nat) : Prop := ∀ n, v.next ≤ n → n < limit → n ∈ v.numbers

theorem OrderView.heldBelow_next (v : OrderView) : v.HeldBelow v.next := fun _ hlow hhigh => absurd hhigh hlow.not_gt

theorem OrderView.HeldBelow.of_closeTo {v : OrderView} {limit : Nat} (hheld : v.next ∈ v.numbers)
    (h : (v.closeTo (v.next + 1)).HeldBelow limit) : v.HeldBelow (max (v.next + 1) limit) := by
  intro n hlow hhigh
  rcases hlow.eq_or_lt with rfl | hlt
  · exact hheld
  · exact (OrderView.mem_closeTo.mp (h n (max_le hlow hlt) (by omega))).1

/-- R47: complete frames close in number order from the oldest unclosed number on, so only held numbers close. -/
theorem State.closeComplete_orderView (fuel : Nat) {s : State} (h : s.orderView.Spaced) :
    ∃ limit, (State.closeComplete fuel s).orderView = s.orderView.closeTo limit ∧ s.orderView.HeldBelow limit := by
  induction fuel generalizing s with
  | zero => exact ⟨_, (h.closeTo_of_le le_rfl).symm, s.orderView.heldBelow_next⟩
  | succ fuel ih =>
    rw [State.closeComplete]
    split
    · next f hdue =>
      obtain ⟨hfind, -⟩ := Option.filter_eq_some_iff.mp hdue
      have hnumber : f.number = s.orderView.next := by
        simpa [State.orderView] using List.find?_some hfind
      have hheld : f.number ∈ s.orderView.numbers := List.mem_map_of_mem (List.mem_of_find?_eq_some hfind)
      have hview := State.closeFrame_orderView h hnumber .complete false
      obtain ⟨limit, hlimit, hbelow⟩ := ih (h.of_closeTo hview)
      rw [hnumber] at hview hheld
      rw [hview] at hlimit hbelow
      rw [OrderView.closeTo_closeTo] at hlimit
      exact ⟨_, hlimit, hbelow.of_closeTo hheld⟩
    · exact ⟨_, (h.closeTo_of_le le_rfl).symm, s.orderView.heldBelow_next⟩

theorem State.closeDue_orderView {s : State} (h : s.orderView.Spaced) :
    ∃ limit, s.closeDue.orderView = s.orderView.closeTo limit ∧ s.orderView.HeldBelow limit :=
  State.closeComplete_orderView _ h

theorem State.FrameOrder.closeDue {s : State} (h : s.FrameOrder) : s.closeDue.FrameOrder := by
  obtain ⟨limit, hview, -⟩ := State.closeDue_orderView h.spaced
  exact h.of_closeTo hview

theorem OrderView.Spaced.number_le_last {s : State} (h : s.orderView.Spaced) {f : Frame}
    (hlast : s.ft.frames.getLast? = some f) {n : Nat} (hn : n ∈ s.orderView.numbers) : n ≤ f.number := by
  obtain ⟨front, hfront⟩ := List.getLast?_eq_some_iff.mp hlast
  have hnumbers : s.orderView.numbers = front.map Frame.number ++ [f.number] := by
    simp [State.orderView, hfront]
  have horder := h.order
  rw [hnumbers] at horder hn
  obtain ⟨-, -, hbelow⟩ := List.pairwise_append.mp horder
  rcases List.mem_append.mp hn with hn | hn
  · exact (hbelow n hn f.number (List.mem_singleton_self _)).le
  · exact (List.mem_singleton.mp hn).le

/-- R50, R51: closing up to the newest held number leaves nothing held. -/
theorem State.closeAll_spaced {s : State} (h : s.orderView.Spaced) (cause : Cause) :
    (s.closeAll cause).orderView.Spaced ∧ (s.closeAll cause).orderView.numbers = [] := by
  unfold State.closeAll
  split
  · next f hlast =>
    have hview := State.closeBelow_orderView h (f.number + 1) cause
    refine ⟨h.of_closeTo hview, ?_⟩
    rw [hview]
    exact List.filter_eq_nil_iff.mpr fun n hn => by simpa using h.number_le_last hlast hn
  · next hnone =>
    exact ⟨h, by simp [State.orderView, List.getLast?_eq_none_iff.mp hnone]⟩

end Sys2Proof.Machine
end

section
/-! The order of the Frame Table at the open of a frame and along the capture path. -/

namespace Sys2Proof.Machine

/-! ### Opening (R41, R42) -/

/-- A number that can still close, is not held and lies within reach enters the table. -/
theorem State.insertNew_spaced {s : State} (h : s.orderView.Spaced) {g : Nat} (hlow : s.ft.nextNumber ≤ g)
    (hhigh : g < s.ft.nextNumber + s.sess.lateness) (hnew : g ∉ s.orderView.numbers) :
    (s.insertNew g).orderView.Spaced where
  allowance := h.allowance
  order := by
    refine List.pairwise_map.mpr (insertFrame_pairwise (List.pairwise_map.mp h.order) fun x hx hxg => ?_)
    exact hnew (List.mem_map.mpr ⟨x, hx, hxg⟩)
  bounds := List.forall_mem_map.mpr fun x hx => by
    rcases (mem_insertFrame _ _ _).mp hx with rfl | hx
    · exact ⟨hlow, le_max_right _ _⟩
    · obtain ⟨hxlow, hxhigh⟩ := h.bounds x.number (List.mem_map_of_mem hx)
      exact ⟨hxlow, hxhigh.trans (le_max_left _ _)⟩
  reach := fun hs => max_lt (h.reach hs) hhigh

/-- R41: the lateness allowance makes room for frame `g`, and the complete frames that close then end before it. -/
theorem State.openFrame_spaced {s : State} (h : s.orderView.Spaced) {g : Nat} (hlow : s.ft.nextNumber ≤ g)
    (hnew : g ∉ s.orderView.numbers) :
    (s.openFrame g).orderView.Spaced ∧ (s.openFrame g).sess.state = s.sess.state := by
  have hbelow := State.closeBelow_orderView h (g + 1 - s.sess.lateness) .lateness
  obtain ⟨limit, hdue, hheld⟩ := State.closeDue_orderView (h.of_closeTo hbelow)
  rw [hbelow] at hdue hheld
  have hallowance : 1 ≤ s.sess.lateness := h.allowance.1
  have hstart : (s.orderView.closeTo (g + 1 - s.sess.lateness)).next ≤ g := max_le hlow (by omega)
  have hlimit : limit ≤ g := by
    by_contra hgt
    exact hnew (OrderView.mem_closeTo.mp (hheld g hstart (by omega))).1
  have hnext := congrArg OrderView.next hdue
  have hlateness := congrArg OrderView.lateness hdue
  simp only [State.orderView, OrderView.closeTo] at hnext hlateness hstart
  rw [OrderView.closeTo_closeTo] at hdue
  refine ⟨State.insertNew_spaced (h.of_closeTo hdue) ?_ ?_ ?_, congrArg OrderView.state hdue⟩
  · omega
  · omega
  · rw [hdue]
    exact fun hg => hnew (OrderView.mem_closeTo.mp hg).1

/-- R8, R16: a frame that a capture write opens finds the session ARMED or RUNNING, and leaves it RUNNING. -/
theorem State.FrameOrder.openFor {s : State} (h : s.FrameOrder) {g : Nat} (hlow : s.ft.nextNumber ≤ g)
    (hnew : g ∉ s.orderView.numbers) (hs : s.sess.state = .armed ∨ s.sess.state = .running) :
    (s.openFor g).FrameOrder := by
  obtain ⟨hspaced, hstate⟩ := State.openFrame_spaced h.spaced hlow hnew
  rcases hs with hs | hs
  · have hidle : (s.openFrame g).orderView.state ≠ .idle := by simp [State.orderView, hstate, hs]
    simpa [State.openFor, hs] using State.frameOrder_of_running (s := (s.openFrame g).enterRunning g)
      (hspaced.withState hidle .running) rfl
  · simpa [State.openFor, hs] using State.frameOrder_of_running hspaced (hstate.trans hs)

theorem FrameTable.not_mem_of_not_find {t : FrameTable} {g : Nat} (h : ¬ (t.find g).isSome = true) :
    g ∉ t.frames.map Frame.number := by
  intro hg
  obtain ⟨f, hf, rfl⟩ := List.mem_map.mp hg
  exact h (List.find?_isSome.mpr ⟨f, hf, by simp⟩)

/-! ### What the capture path leaves alone (R15 to R20, R28 to R31) -/

theorem State.modifyFrame_orderView (s : State) (g : Nat) (change : Frame → Frame)
    (h : ∀ f, (change f).number = f.number) : (s.setFt (s.ft.modify g change)).orderView = s.orderView := by
  simp only [State.orderView, State.setFt_ft, State.setFt_sess, FrameTable.modify_numbers _ _ _ h,
    FrameTable.modify_nextNumber, FrameTable.modify_reference]

theorem State.ite_orderView {c : Prop} [Decidable c] {a b : State} {v : OrderView} (ha : a.orderView = v)
    (hb : b.orderView = v) : (if c then a else b).orderView = v := by
  split
  · exact ha
  · exact hb

theorem State.strayWrite_orderView (s : State) (w slot : Nat) : (s.strayWrite w slot).orderView = s.orderView :=
  State.ite_orderView rfl rfl

theorem State.lateWrite_orderView (s : State) (w slot g : Nat) : (s.lateWrite w slot g).orderView = s.orderView :=
  State.ite_orderView rfl rfl

theorem State.codeWinner_orderView (s : State) (g t : Nat) (samples : List Int) (crc : BitVec 32) :
    (s.codeWinner g t samples crc).orderView = s.orderView :=
  State.ite_orderView (State.ite_orderView rfl ((s.setAw _).modifyFrame_orderView g _ fun _ => by rfl)) rfl

theorem State.secondCopy_orderView (s : State) (g t : Nat) (stored : BitVec 32) (samples : List Int) :
    (s.secondCopy g t stored samples).orderView = s.orderView :=
  State.ite_orderView (State.ite_orderView rfl ((s.setTracks _).modifyFrame_orderView g _ fun _ => by rfl)) rfl

theorem State.exhaust_orderView (s : State) (src : Source) (g : Nat) (first : Bool) :
    (s.exhaust src g first).orderView = s.orderView := by
  have hmark := s.modifyFrame_orderView g (fun f => { f with failed := f.failed ++ [src], exhausted := true })
    fun _ => rfl
  exact State.ite_orderView hmark hmark

theorem Frame.accumulate_number (f : Frame) (blockSize t : Nat) (samples : List Int) :
    (f.accumulate blockSize t samples).number = f.number := by
  unfold Frame.accumulate
  split <;> rfl

/-! ### Capture writes (R8 to R20, R28) -/

theorem State.FrameOrder.winBlock {s : State} (h : s.FrameOrder) (g t : Nat) (role : Role) (samples : List Int) :
    (s.winBlock g t role samples).FrameOrder := by
  have hwin := s.modifyFrame_orderView g (fun f =>
    ({ f with wins := f.wins ++ [⟨t, role, blockCrc samples⟩] } : Frame).accumulate s.sess.blockSize t samples)
    fun f => Frame.accumulate_number _ _ _ _
  exact State.FrameOrder.closeDue (h.of_view ((State.codeWinner_orderView _ g t samples _).trans hwin))

theorem State.FrameOrder.selectBlock {s : State} (h : s.FrameOrder) (src : Source) (g : Nat) (samples : List Int) :
    (s.selectBlock src g samples).FrameOrder := by
  unfold State.selectBlock
  split
  · exact h
  · split
    · exact h.of_view (s.secondCopy_orderView ..)
    · exact h.winBlock ..

theorem State.FrameOrder.keepBuffer {s : State} (h : s.FrameOrder) (format : Format) (b : Buffer) :
    (s.keepBuffer format b).FrameOrder := by
  unfold State.keepBuffer
  split
  · refine State.FrameOrder.selectBlock (h.of_view ?_) _ _ _
    exact s.modifyFrame_orderView b.frame (fun f => { f with completed := f.completed ++ [⟨b.window, b.lane⟩] })
      fun _ => rfl
  · exact h.of_view rfl

theorem State.FrameOrder.assemble {s : State} (h : s.FrameOrder) (format : Format) (src : Source) (g line : Nat)
    (d : WriteData) : (s.assemble format src g line d).FrameOrder := by
  unfold State.assemble
  split
  · exact h
  · split
    · exact h.of_view rfl
    · split
      · exact h
      · split
        · exact h.keepBuffer ..
        · split
          · exact h.keepBuffer ..
          · exact h.of_view (s.exhaust_orderView ..)

theorem State.FrameOrder.captureMapped {s : State} (h : s.FrameOrder)
    (hs : s.sess.state = .armed ∨ s.sess.state = .running) (w : Nat) (r : WindowRecord) (p : WindowPlace) (g : Nat)
    (d : WriteData) : (s.captureMapped w r p g d).FrameOrder := by
  unfold State.captureMapped
  split
  · exact h.of_view (s.lateWrite_orderView ..)
  · next hopen =>
    have hlow : s.ft.nextNumber ≤ g := by simpa [FrameTable.isClosed] using hopen
    refine State.FrameOrder.assemble ?_ ..
    split
    · exact h
    · next hnone => exact h.openFor hlow (FrameTable.not_mem_of_not_find hnone) hs

theorem State.FrameOrder.captureWrite {s : State} (h : s.FrameOrder)
    (hs : s.sess.state = .armed ∨ s.sess.state = .running) (w : Nat) (r : WindowRecord) (p : WindowPlace)
    (d : WriteData) : (s.captureWrite w r p d).FrameOrder := by
  unfold State.captureWrite
  dsimp only
  split
  · exact h.of_view (s.strayWrite_orderView ..)
  · exact State.FrameOrder.captureMapped (h.of_view (by rfl)) (by exact hs) ..

/-- R11: the session is RUNNING again with nothing held. -/
theorem State.FrameOrder.resumeSession {s : State} (h : s.FrameOrder) (hs : s.sess.state = .stalled)
    (w slots slot : Nat) : (s.resumeSession w slots slot).FrameOrder :=
  State.frameOrder_of_running (s := s.resumeSession w slots slot)
    (h.spaced.withState (by simp [State.orderView, hs]) .running) rfl

theorem State.FrameOrder.windowWrite {s : State} (h : s.FrameOrder) (w : Nat) (r : WindowRecord) (p : WindowPlace)
    (d : WriteData) : (s.windowWrite w r p d).FrameOrder := by
  unfold State.windowWrite
  dsimp only
  split
  case h_1 => exact h
  case h_2 => exact h.of_view rfl
  case h_3 hs =>
    split
    · exact h.captureWrite (.inl hs) ..
    · exact h
  case h_4 hs =>
    split
    · split
      · exact State.FrameOrder.captureWrite (h.of_view (by rfl)) (by exact .inr hs) ..
      · exact h.of_view rfl
    · split
      · exact State.FrameOrder.captureMapped (h.of_view (by rfl)) (by exact .inr hs) ..
      · exact h.of_view rfl
  case h_5 hs =>
    have hresumed := h.resumeSession hs w r.slots p.slot
    split
    · split
      · exact h.of_view (s.strayWrite_orderView ..)
      · exact h
    · split
      · exact hresumed.captureMapped (.inr rfl) ..
      · exact hresumed

/-- R143, R144: the mirror copy and its records come before or after the session's part. -/
theorem State.FrameOrder.windowOwner {s : State} (h : s.FrameOrder) (addr : Nat) (d : WriteData) (w : Nat) :
    (s.windowOwner addr d w).FrameOrder := by
  unfold State.windowOwner
  split
  · exact h
  · next r _ =>
    have hsession : ∀ x : State, x.orderView = s.orderView →
        (if d.mask = 0 then x else x.windowWrite w r (r.place x.sess.blockSize addr) d).FrameOrder := by
      intro x hx
      split
      · exact h.of_view hx
      · exact (h.of_view hx).windowWrite ..
    dsimp only
    split
    · exact hsession _ rfl
    · split
      · exact hsession _ rfl
      · exact State.FrameOrder.of_view (hsession _ (by rfl)) rfl

end Sys2Proof.Machine
end

section
/-! Every command function, event and row keeps the order of the Frame Table, and so does every step. -/

namespace Sys2Proof.Machine

/-! ### The command functions (Sections 1 to 10) -/

/-- What a function's owner leaves is in order where it found the table in order. -/
def OwnerKeepsOrder (run : State → State × Reply) : Prop := ∀ s : State, s.FrameOrder → (run s).1.FrameOrder

theorem OwnerKeepsOrder.of_view {run : State → State × Reply}
    (h : ∀ s : State, (run s).1.orderView = s.orderView) :
    OwnerKeepsOrder run := fun s hs => hs.of_view (h s)

theorem firstFailure_eq_none {checks : List (Bool × Reason)} :
    firstFailure checks = none ↔ ∀ c ∈ checks, c.1 = true := by
  induction checks with
  | nil => simp [firstFailure]
  | cons c rest ih =>
    obtain ⟨ok, reason⟩ := c
    cases ok <;> simp [firstFailure, ih]

/-- A function leaves `s`, or acts where every check passes. -/
theorem State.checked_fst {motive : State → Prop} {s : State} {checks : List (Bool × Reason)} {act : State × Reply}
    (hs : motive s) (hact : (∀ c ∈ checks, c.1 = true) → motive act.1) : motive (s.checked checks act).1 := by
  unfold State.checked
  split
  · exact hs
  · next hpass => exact hact (firstFailure_eq_none.mp hpass)

theorem OwnerKeepsOrder.of_checked {checks : State → List (Bool × Reason)} {act : State → State × Reply}
    (h : ∀ s : State, (act s).1.orderView = s.orderView) :
    OwnerKeepsOrder fun s => s.checked (checks s) (act s) :=
  .of_view fun s => State.checked_fst (motive := fun t => t.orderView = s.orderView) rfl fun _ => h s

/-- R5: SetSession acts in IDLE, where nothing is held, and its lateness allowance is 1 to 4. -/
theorem setSession_keepsOrder (blockSize lateness rate stall : Nat) :
    OwnerKeepsOrder fun s => s.setSession blockSize lateness rate stall := by
  intro s h
  refine State.checked_fst h fun hpass => ?_
  have hidle : s.sess.state = .idle := beq_iff_eq.mp (hpass (s.isIdle, .notIdle) (by simp))
  have hallowance := of_decide_eq_true (hpass (decide (1 ≤ lateness ∧ lateness ≤ 4), .badValue) (by simp))
  exact State.frameOrder_of_idle hidle (h.held (by simp [hidle])) hallowance

/-- R7: the table is empty, and both the oldest unclosed number and the reference are 0. -/
theorem start_keepsOrder : OwnerKeepsOrder State.start := by
  intro s h
  refine State.checked_fst h fun _ => State.frameOrder_of_empty ⟨h.allowance, ?_, ?_, fun _ => ?_⟩ rfl
  · exact List.Pairwise.nil
  · exact fun _ hn => absurd hn List.not_mem_nil
  · exact Nat.lt_of_lt_of_eq h.allowance.1 (Nat.zero_add _).symm

/-- R12, R51: closing up to the newest held number leaves nothing held outside RUNNING. -/
theorem State.FrameOrder.beginDraining {s : State} (h : s.FrameOrder) (hs : s.sess.state ≠ .idle) :
    s.beginDraining.FrameOrder := by
  obtain ⟨hspaced, hempty⟩ := State.closeAll_spaced
    (s := (s.setSess { s.sess with state := .draining, timer := none }).file (stateRecord .draining s.sess.state))
    (h.spaced.withState hs .draining) .stop
  exact State.frameOrder_of_empty (s := s.beginDraining) hspaced hempty

theorem State.FrameOrder.endSession {s : State} (h : s.FrameOrder) (hs : s.sess.state ≠ .running) :
    s.endSession.FrameOrder := State.frameOrder_of_idle rfl (h.held hs) h.allowance

theorem stop_keepsOrder : OwnerKeepsOrder State.stop := by
  intro s h
  unfold State.stop
  split
  case h_1 => exact h
  case h_2 hs => exact (h.endSession (by simp [hs])).of_view rfl
  case h_3 hs => exact h.beginDraining (by simp [hs])
  case h_4 hs => exact h.beginDraining (by simp [hs])
  case h_5 => exact h

theorem State.FrameOrder.resetKept {s : State} (h : s.FrameOrder) : s.resetKept.FrameOrder :=
  State.frameOrder_of_idle rfl rfl h.allowance

theorem State.resetUnpinned_frameOrder (s : State) : s.resetUnpinned.FrameOrder :=
  State.frameOrder_of_idle rfl rfl (show 1 ≤ 1 ∧ 1 ≤ 4 by decide)

theorem restart_keepsOrder : OwnerKeepsOrder State.restart := by
  intro s h
  have hreset : (if s.cmd.pin then s.resetKept.setAw (s.aw.resetKept s.path.queues.archive true)
      else s.resetUnpinned).FrameOrder := by
    split
    · exact h.resetKept.of_view rfl
    · exact s.resetUnpinned_frameOrder
  exact hreset.of_view rfl

theorem loadWindows_keepsOrder (body : List Byte) : OwnerKeepsOrder fun s => s.loadWindows body :=
  .of_checked fun _ => rfl

theorem loadTracks_keepsOrder (body : List Byte) : OwnerKeepsOrder fun s => s.loadTracks body :=
  .of_checked fun _ => rfl

theorem loadReleaseOrder_keepsOrder (tracks : List Byte) : OwnerKeepsOrder fun s => s.loadReleaseOrder tracks :=
  .of_checked fun _ => rfl

theorem loadBus_keepsOrder (bus : Byte) (entries : List BusEntry) : OwnerKeepsOrder fun s => s.loadBus bus entries :=
  .of_checked fun _ => rfl

theorem setBusLevel_keepsOrder (entries : List LevelEntry) : OwnerKeepsOrder fun s => s.setBusLevel entries :=
  .of_checked fun _ => rfl

theorem setBusMute_keepsOrder (selection setting : Byte) : OwnerKeepsOrder fun s => s.setBusMute selection setting :=
  .of_checked fun _ => rfl

theorem setStream_keepsOrder (b : StreamBody) : OwnerKeepsOrder fun s => s.setStream b := .of_checked fun _ => rfl

theorem setArchive_keepsOrder (b : ArchiveBody) : OwnerKeepsOrder fun s => s.setArchive b := .of_checked fun _ => rfl

theorem releaseSegment_keepsOrder (n : Nat) : OwnerKeepsOrder fun s => s.releaseSegment n := .of_checked fun _ => rfl

theorem setReports_keepsOrder (b : ReportsBody) : OwnerKeepsOrder fun s => s.setReports b := .of_checked fun _ => rfl

theorem setInsertion_keepsOrder (b : InsertionBody) : OwnerKeepsOrder fun s => s.setInsertion b :=
  .of_checked fun _ => rfl

theorem pinSettings_keepsOrder (setting : Byte) : OwnerKeepsOrder fun s => s.pinSettings setting :=
  .of_checked fun _ => rfl

theorem getFailReason_keepsOrder : OwnerKeepsOrder State.getFailReason := .of_view fun _ => rfl

theorem getSession_keepsOrder : OwnerKeepsOrder State.getSession := .of_view fun _ => rfl

theorem getTracks_keepsOrder (first count : Byte) : OwnerKeepsOrder fun s => s.getTracks first count :=
  .of_checked fun _ => rfl

theorem getWindows_keepsOrder : OwnerKeepsOrder State.getWindows := .of_view fun _ => rfl

theorem getMeters_keepsOrder : OwnerKeepsOrder State.getMeters := .of_view fun _ => rfl

theorem getStreams_keepsOrder : OwnerKeepsOrder State.getStreams := .of_view fun _ => rfl

theorem getArchive_keepsOrder : OwnerKeepsOrder State.getArchive := .of_view fun _ => rfl

theorem getResetCause_keepsOrder : OwnerKeepsOrder State.getResetCause := .of_view fun _ => rfl

theorem runFunction_keepsOrder (fn : Function) (body : List Byte) : OwnerKeepsOrder (runFunction fn body) := by
  cases fn with
  | setSession => exact setSession_keepsOrder _ _ _ _
  | loadWindows => exact loadWindows_keepsOrder _
  | loadTracks => exact loadTracks_keepsOrder _
  | loadReleaseOrder => exact loadReleaseOrder_keepsOrder _
  | loadBus => exact loadBus_keepsOrder _ _
  | setBusLevel => exact setBusLevel_keepsOrder _
  | setBusMute => exact setBusMute_keepsOrder _ _
  | setStream => exact setStream_keepsOrder _
  | setArchive => exact setArchive_keepsOrder _
  | releaseSegment => exact releaseSegment_keepsOrder _
  | setReports => exact setReports_keepsOrder _
  | setInsertion => exact setInsertion_keepsOrder _
  | start => exact start_keepsOrder
  | stop => exact stop_keepsOrder
  | pinSettings => exact pinSettings_keepsOrder _
  | restart => exact restart_keepsOrder
  | getFailReason => exact getFailReason_keepsOrder
  | getSession => exact getSession_keepsOrder
  | getTracks => exact getTracks_keepsOrder _ _
  | getWindows => exact getWindows_keepsOrder
  | getMeters => exact getMeters_keepsOrder
  | getStreams => exact getStreams_keepsOrder
  | getArchive => exact getArchive_keepsOrder
  | getResetCause => exact getResetCause_keepsOrder

/-! ### Takes of packets (R150 to R156) -/

theorem State.setCmd_orderView (s : State) (u : CommandUnit) : (s.setCmd u).orderView = s.orderView := rfl

theorem State.answer_orderView (s : State) (reply : Reply) : (s.answer reply).orderView = s.orderView := by
  obtain ⟨u, hu⟩ := s.answer_eq reply
  rw [hu]
  rfl

theorem State.beginTake_orderView (s : State) (seq : Byte) (function : BitVec 16) :
    (s.beginTake seq function).orderView = s.orderView := by
  obtain ⟨u, p, hup, -⟩ := s.beginTake_eq seq function
  rw [hup]
  rfl

theorem State.FrameOrder.execute {s : State} (h : s.FrameOrder) {run : State → State × Reply}
    (hrun : OwnerKeepsOrder run) : (s.execute run).FrameOrder := (hrun s h).of_view (State.answer_orderView _ _)

theorem State.FrameOrder.takeSingle {s : State} (h : s.FrameOrder) {run : State → State × Reply}
    (hrun : OwnerKeepsOrder run) : (s.takeSingle run).FrameOrder := by
  unfold State.takeSingle
  split
  · exact h.execute hrun
  · exact h.of_view rfl

theorem State.FrameOrder.takePart {s : State} (h : s.FrameOrder) (fn : Function) {owner : Owner}
    (howner : ∀ body, OwnerKeepsOrder (owner body)) (part : Part) (body : List Byte) :
    (s.takePart fn owner part body).FrameOrder := by
  have hended : s.endSequence.FrameOrder := h.of_view rfl
  unfold State.takePart
  split
  case h_1 =>
    split
    · exact h.execute (howner _)
    · exact h.of_view rfl
  case h_2 => exact h.of_view rfl
  case h_3 => exact h.of_view rfl
  case h_4 => exact h.of_view rfl
  case h_5 => exact h.of_view rfl
  case h_6 => exact h.of_view (State.ite_orderView rfl (State.ite_orderView rfl rfl))
  case h_7 => exact h.of_view rfl
  case h_8 =>
    split
    · exact h.of_view rfl
    · split
      · exact hended.execute (howner _)
      · exact h.of_view rfl

theorem State.FrameOrder.submit {s : State} (h : s.FrameOrder) (seq : Byte) {take : State → State}
    (htake : (take s).FrameOrder) : (s.submit seq take).FrameOrder := by
  rcases s.submit_cases seq take with ⟨-, heq⟩ | ⟨-, -, -, ⟨-, heq⟩ | ⟨-, heq⟩⟩
  · rwa [heq]
  · rw [heq]
    exact h.of_view rfl
  · rwa [heq]

theorem State.FrameOrder.takePacket {s : State} (h : s.FrameOrder) {owner : Function → Owner}
    (howner : ∀ fn body, OwnerKeepsOrder (owner fn body)) (seq : Byte) : (s.takePacket owner seq).FrameOrder := by
  have htaken := h.of_view (s.beginTake_orderView seq (BitVec.ofNat 16 (fieldAt s.cmd.buffer 4 2)))
  unfold State.takePacket
  dsimp only
  split
  · exact htaken.of_view rfl
  · exact htaken.takePart _ (howner _) _ _

theorem State.FrameOrder.commandWrite {s : State} (h : s.FrameOrder) {owner : Function → Owner}
    (howner : ∀ fn body, OwnerKeepsOrder (owner fn body)) (line : Nat) (d : WriteData) :
    (s.commandWrite owner line d).FrameOrder := by
  have hcopied : (s.setCmd (s.cmd.copy line d)).FrameOrder := h.of_view (s.setCmd_orderView _)
  unfold State.commandWrite
  dsimp only
  split
  · exact hcopied.submit _ (hcopied.takePacket howner _)
  · exact hcopied

/-! ### Owed events (assumption 5) -/

theorem State.endCommand_orderView (s : State) : s.endCommand.orderView = s.orderView := by
  unfold State.endCommand
  split
  · rfl
  · rfl

theorem State.fillSlot_orderView (s : State) (k slot g : Nat) : (s.fillSlot k slot g).orderView = s.orderView := by
  unfold State.fillSlot
  split
  · exact State.ite_orderView rfl rfl
  · rfl

theorem State.takeReport_orderView (s : State) (r : Report) : (s.takeReport r).orderView = s.orderView := by
  cases r with
  | commandEnd => exact (s.setReport none).endCommand_orderView
  | slotFilled k slot g => exact (s.setReport none).fillSlot_orderView k slot g
  | segmentSettled n => rfl

/-- R13: DRAINING ends in IDLE with nothing held. -/
theorem State.FrameOrder.endDraining {s : State} (h : s.FrameOrder) (hover : s.drainOver = true) :
    s.endDraining.FrameOrder := by
  have hdraining : s.sess.state = .draining := by
    simp only [State.drainOver, Bool.and_eq_true, beq_iff_eq] at hover
    obtain ⟨⟨⟨⟨hstate, -⟩, -⟩, -⟩, -⟩ := hover
    exact hstate
  exact (h.endSession (by simp [hdraining])).of_view rfl

theorem State.FrameOrder.endDrainingIfOver {s : State} (h : s.FrameOrder) :
    (if s.drainOver then s.endDraining else s).FrameOrder := by
  split
  · next hover => exact h.endDraining hover
  · exact h

theorem State.FrameOrder.owed {s : State} (h : s.FrameOrder) : s.owed.FrameOrder := by
  unfold State.owed
  cases s.report with
  | none => exact h.endDrainingIfOver
  | some r => exact (h.of_view (s.takeReport_orderView r)).endDrainingIfOver

theorem State.FrameOrder.ready {s : State} (h : s.FrameOrder) : s.ready.FrameOrder :=
  State.FrameOrder.owed (h.of_view rfl)

theorem State.FrameOrder.takeFunction {s : State} (h : s.FrameOrder) (seq : Byte) (fn : Function)
    {run : State → State × Reply} (hrun : OwnerKeepsOrder run) : (s.takeFunction seq fn run).FrameOrder :=
  h.ready.submit seq ((h.ready.of_view (State.beginTake_orderView _ _ _)).takeSingle hrun)

theorem State.FrameOrder.takeTable {s : State} (h : s.FrameOrder) (seq : Byte) (fn : Function) (part : Part)
    (body : List Byte) : (s.takeTable seq fn part body).FrameOrder := by
  have htaken := h.ready.of_view (s.ready.beginTake_orderView seq (BitVec.ofNat 16 fn.number))
  refine h.ready.submit seq ?_
  dsimp only
  split
  · exact htaken.of_view rfl
  · exact htaken.takePart fn (runFunction_keepsOrder fn) part body

/-! ### The path, the stall and the resets -/

theorem State.FrameOrder.ownWrite {s : State} (h : s.FrameOrder) (addr : Nat) (d : WriteData) :
    (s.ownWrite addr d).FrameOrder := by
  have hwindows : ((s.sess.windowsAt addr).foldl (fun x w => x.windowOwner addr d w) s).FrameOrder :=
    List.foldlRecOn _ _ h fun x hx w _ => hx.windowOwner addr d w
  unfold State.ownWrite
  dsimp only
  split
  · exact hwindows.commandWrite runFunction_keepsOrder _ _
  · exact hwindows

theorem State.FrameOrder.takeHead {s : State} (h : s.FrameOrder) (r : Passing) : (s.takeHead r).FrameOrder := by
  have hforwarded : (s.forwardHead r).FrameOrder := h.of_view rfl
  have howned : ((s.forwardHead r).own r).FrameOrder := by
    unfold State.own
    split
    · exact hforwarded.ownWrite _ _
    · exact hforwarded.of_view rfl
  unfold State.takeHead
  split
  · exact hforwarded
  · split
    · exact h.of_view rfl
    · exact howned

theorem State.reportForwarded_orderView (s : State) (note : Note) :
    (s.reportForwarded note).orderView = s.orderView := by
  cases note with
  | directoryRecord n state => exact State.ite_orderView rfl rfl
  | finalHeader => rfl
  | streamHeader k slot g => rfl
  | frameEnd n g count used => rfl
  | responseLine => rfl
  | record pulse => rfl
  | streamPayload => rfl
  | mirrorCopy => rfl
  | directoryHeader => rfl
  | frameLine => rfl

theorem State.forwardInserted_orderView (s : State) (p : Producer) :
    (s.forwardInserted p).orderView = s.orderView := by
  unfold State.forwardInserted
  split
  · rfl
  · exact State.reportForwarded_orderView _ _

theorem State.complete_orderView (s : State) (order : Nat) (c : Completion) :
    (s.complete order c).orderView = s.orderView := by
  unfold State.complete
  dsimp only
  split
  · rfl
  · split
    · rfl
    · split
      · rfl
      · rfl

/-- R10, R50: the stall closes up to the newest held number. -/
theorem State.FrameOrder.stall {s : State} (h : s.FrameOrder) (hs : s.sess.state = .running) :
    s.stall.FrameOrder := by
  obtain ⟨hspaced, hempty⟩ := State.closeAll_spaced
    (s := s.setSess { s.sess with state := .stalled, timer := none })
    (h.spaced.withState (by simp [State.orderView, hs]) .stalled) .stall
  exact State.frameOrder_of_empty (s := s.stall) hspaced hempty

theorem State.FrameOrder.tick {s : State} (h : s.FrameOrder) : s.tick.FrameOrder := by
  unfold State.tick
  split
  · next hs _ =>
    split
    · exact h.stall hs
    · exact h.of_view rfl
  · exact h

theorem State.FrameOrder.pathReset {s : State} (h : s.FrameOrder) : s.pathReset.FrameOrder := by
  have hpath : ∀ x : State, x.resetPath.orderView = x.orderView := by
    intro x
    unfold State.resetPath
    dsimp only
    split
    · rfl
    · rfl
  unfold State.pathReset
  split
  · exact h.of_view rfl
  · exact h.resetKept.of_view (hpath _)

theorem State.enqueueResponseLine_orderView (s : State) : s.enqueueResponseLine.orderView = s.orderView := by
  unfold State.enqueueResponseLine
  split
  · exact State.ite_orderView rfl rfl
  · rfl

theorem State.writeRecord_orderView (s : State) : s.writeRecord.orderView = s.orderView := by
  unfold State.writeRecord
  split
  · exact State.ite_orderView rfl rfl
  · rfl

theorem State.enqueueStreamLine_orderView (s : State) : s.enqueueStreamLine.orderView = s.orderView := by
  unfold State.enqueueStreamLine
  split
  · exact State.ite_orderView rfl rfl
  · rfl

theorem State.enqueueArchiveLine_orderView (s : State) : s.enqueueArchiveLine.orderView = s.orderView := by
  unfold State.enqueueArchiveLine
  split
  · exact State.ite_orderView rfl rfl
  · rfl

/-! ### The rows -/

/-- A row answers a state in order where it found the table in order. -/
def RowKeepsOrder (row : State → Host.Outcome State Fault Refusal) : Prop :=
  ∀ s : State, s.FrameOrder → ∃ t : State, row s = .next t ∧ t.FrameOrder

theorem RowKeepsOrder.of_next {next : State → State} (h : ∀ s : State, s.FrameOrder → (next s).FrameOrder) :
    RowKeepsOrder fun s => .next (next s) := fun s hs => ⟨_, rfl, h s hs⟩

/-- A row that acts on the ready state and leaves the view alone. -/
theorem RowKeepsOrder.of_ready {next : State → State} (h : ∀ s : State, (next s).orderView = s.orderView) :
    RowKeepsOrder fun s => .next (next s.ready) := .of_next fun _ hs => hs.ready.of_view (h _)

theorem RowKeepsOrder.of_takeFunction (seq : Byte) (fn : Function) {run : State → State × Reply}
    (h : OwnerKeepsOrder run) : RowKeepsOrder fun s => .next (s.takeFunction seq fn run) :=
  .of_next fun _ hs => hs.takeFunction seq fn h

theorem RowKeepsOrder.of_takeTable (seq : Byte) (fn : Function) (part : Part) (body : List Byte) :
    RowKeepsOrder fun s => .next (s.takeTable seq fn part body) := .of_next fun _ hs => hs.takeTable seq fn part body

theorem powerOn_frameOrder (baseSel : BitVec 8) (passOnly : Bool) (pending : List Instr) :
    State.FrameOrder { State.powerOn baseSel passOnly with pending := pending } :=
  State.frameOrder_of_idle rfl rfl (show 1 ≤ 1 ∧ 1 ≤ 4 by decide)

/-- A row that takes its own report where that one waits, and otherwise only quiets the outputs. -/
theorem RowKeepsOrder.of_report {row : State → Host.Outcome State Fault Refusal}
    (h : ∀ s : State, row s = .next (s.setPorts Ports.quiet)
      ∨ ∃ r, row s = .next ((s.setPorts Ports.quiet).takeReport r)) : RowKeepsOrder row := by
  intro s hs
  have hquiet : (s.setPorts Ports.quiet).FrameOrder := hs.of_view rfl
  rcases h s with hrow | ⟨r, hrow⟩
  · exact ⟨_, hrow, hquiet⟩
  · exact ⟨_, hrow, hquiet.of_view (State.takeReport_orderView _ r)⟩

theorem execCommandEnd_keepsOrder : RowKeepsOrder execCommandEnd := .of_report fun s => by
  unfold execCommandEnd
  dsimp only
  split
  · exact .inr ⟨_, rfl⟩
  · exact .inl rfl

theorem execSlotFilled_keepsOrder : RowKeepsOrder execSlotFilled := .of_report fun s => by
  unfold execSlotFilled
  dsimp only
  split
  · exact .inr ⟨_, rfl⟩
  · exact .inl rfl

theorem execSegmentSettled_keepsOrder : RowKeepsOrder execSegmentSettled := .of_report fun s => by
  unfold execSegmentSettled
  dsimp only
  split
  · exact .inr ⟨_, rfl⟩
  · exact .inl rfl

theorem execDrainingEnd_keepsOrder : RowKeepsOrder execDrainingEnd := by
  intro s h
  have hquiet : (s.setPorts Ports.quiet).FrameOrder := h.of_view rfl
  unfold execDrainingEnd
  dsimp only
  split
  · next hover => exact ⟨_, rfl, hquiet.endDraining hover⟩
  · exact ⟨_, rfl, hquiet⟩

theorem execPassingRequestTake_keepsOrder : RowKeepsOrder execPassingRequestTake := by
  intro s h
  unfold execPassingRequestTake
  dsimp only
  split
  · split
    · exact ⟨_, rfl, h.ready.takeHead _⟩
    · exact ⟨_, rfl, h.ready⟩
  · exact ⟨_, rfl, h.ready⟩

theorem execInsertedLineForward_keepsOrder : RowKeepsOrder execInsertedLineForward := by
  intro s h
  unfold execInsertedLineForward
  dsimp only
  split
  · exact ⟨_, rfl, h.ready.of_view (State.forwardInserted_orderView _ _)⟩
  · exact ⟨_, rfl, h.ready⟩
  · exact ⟨_, rfl, h.ready⟩

theorem execStallTimerExpiry_keepsOrder : RowKeepsOrder execStallTimerExpiry := by
  intro s h
  unfold execStallTimerExpiry
  split
  · next hs => exact ⟨_, rfl, h.ready.stall hs⟩
  · exact ⟨_, rfl, h.ready⟩

theorem exec_keepsOrder (i : Instr) : RowKeepsOrder (exec i) := by
  cases i with
  | powerOnReset baseSel passOnly => exact .of_next fun s _ => powerOn_frameOrder baseSel passOnly s.pending
  | pathReset => exact .of_next fun _ h => h.ready.pathReset
  | lineWrite addr data mask tag => exact .of_next fun _ h => h.ready.of_view rfl
  | lineRead addr tag => exact .of_next fun _ h => h.ready.of_view rfl
  | passingRequestTake => exact execPassingRequestTake_keepsOrder
  | insertedLineForward => exact execInsertedLineForward_keepsOrder
  | writeDone order => exact .of_ready fun s => s.complete_orderView order _
  | writeRefused order => exact .of_ready fun s => s.complete_orderView order _
  | readData order data => exact .of_ready fun s => s.complete_orderView order _
  | readRefused order => exact .of_ready fun s => s.complete_orderView order _
  | stallTimerExpiry => exact execStallTimerExpiry_keepsOrder
  | setSession seq blockSize lateness rate stall => exact .of_takeFunction _ _ (setSession_keepsOrder _ _ _ _)
  | loadWindows seq part body => exact .of_takeTable _ _ _ _
  | loadTracks seq part body => exact .of_takeTable _ _ _ _
  | loadReleaseOrder seq tracks => exact .of_takeFunction _ _ (loadReleaseOrder_keepsOrder _)
  | loadBus seq bus entries => exact .of_takeFunction _ _ (loadBus_keepsOrder _ _)
  | setBusLevel seq entries => exact .of_takeFunction _ _ (setBusLevel_keepsOrder _)
  | setBusMute seq selection setting => exact .of_takeFunction _ _ (setBusMute_keepsOrder _ _)
  | setStream seq body => exact .of_takeFunction _ _ (setStream_keepsOrder _)
  | setArchive seq body => exact .of_takeFunction _ _ (setArchive_keepsOrder _)
  | releaseSegment seq segment => exact .of_takeFunction _ _ (releaseSegment_keepsOrder _)
  | setReports seq body => exact .of_takeFunction _ _ (setReports_keepsOrder _)
  | setInsertion seq body => exact .of_takeFunction _ _ (setInsertion_keepsOrder _)
  | start seq => exact .of_takeFunction _ _ start_keepsOrder
  | stop seq => exact .of_takeFunction _ _ stop_keepsOrder
  | pinSettings seq setting => exact .of_takeFunction _ _ (pinSettings_keepsOrder _)
  | restart seq => exact .of_takeFunction _ _ restart_keepsOrder
  | getFailReason seq => exact .of_takeFunction _ _ getFailReason_keepsOrder
  | getSession seq => exact .of_takeFunction _ _ getSession_keepsOrder
  | getTracks seq first count => exact .of_takeFunction _ _ (getTracks_keepsOrder _ _)
  | getWindows seq => exact .of_takeFunction _ _ getWindows_keepsOrder
  | getMeters seq => exact .of_takeFunction _ _ getMeters_keepsOrder
  | getStreams seq => exact .of_takeFunction _ _ getStreams_keepsOrder
  | getArchive seq => exact .of_takeFunction _ _ getArchive_keepsOrder
  | getResetCause seq => exact .of_takeFunction _ _ getResetCause_keepsOrder
  | drainingEnd => exact execDrainingEnd_keepsOrder
  | commandEnd => exact execCommandEnd_keepsOrder
  | slotFilled => exact execSlotFilled_keepsOrder
  | segmentSettled => exact execSegmentSettled_keepsOrder
  | responseLineEnqueue => exact .of_ready State.enqueueResponseLine_orderView
  | reportRecordWrite => exact .of_ready State.writeRecord_orderView
  | streamLineEnqueue => exact .of_ready State.enqueueStreamLine_orderView
  | archiveLineEnqueue => exact .of_ready State.enqueueArchiveLine_orderView

theorem step_keepsOrder : RowKeepsOrder step := by
  intro s h
  unfold step
  split
  · exact ⟨_, rfl, h.ready.tick⟩
  · exact exec_keepsOrder _ _ (h.of_view (by rfl))

/-- Settles O59: every row keeps the order by what it does to the view, and R45's claims follow from the order. -/
theorem everyStepKeepsTheFrameOrder : Obligations.EveryStepKeepsTheFrameOrder := by
  unfold Obligations.EveryStepKeepsTheFrameOrder
  intro s t h hstep
  obtain ⟨t', hnext, ht'⟩ := step_keepsOrder s h
  have ht : t.FrameOrder := by
    rw [hstep] at hnext
    cases hnext
    exact ht'
  exact ⟨ht, ht.length_le, ht.length_le.trans ht.allowance.2,
    fun f hf => ⟨fun g hg => ht.newest_lt hf hg, fun g hg => ht.number_le hf hg⟩⟩

end Sys2Proof.Machine
end

section
/-! The take and the outcome of a function that reaches its owner: the model's own account of them is the one that
`Sys2Proof.Spec` gives of R151 to R153. -/

namespace Sys2Proof.Machine

open Sys2Proof.Spec

/-! ### The take (R151) -/

/-- The working header goes out at once where the Response queue has room, and waits in the output list otherwise. -/
theorem State.beginTake_quiet (s : State) (seq : Byte) (field : BitVec 16) :
    (s.setPorts Ports.quiet).beginTake seq field = takenWith s seq field := by
  have hroom : (s.path.hasRoom .response && s.cmd.out.isEmpty) = true
      ↔ s.path.queues.response.length < 16 ∧ s.cmd.out = [] := by
    rw [Bool.and_eq_true, PathUnit.hasRoom_iff, List.isEmpty_iff]
    rfl
  exact ite_congr (propext hroom) (fun _ => rfl) fun _ => rfl

theorem taken_buses (s : State) (seq : Byte) (fn : Function) : (taken s seq fn).buses = s.buses := by
  unfold taken takenWith
  split <;> rfl

/-- Whichever way the working header goes, the unit is WORKING after the take. -/
theorem taken_working (s : State) (seq : Byte) (fn : Function) : (taken s seq fn).cmd.working ≠ none := by
  unfold taken takenWith
  split <;> exact Option.some_ne_none _

/-- A single-part packet that reaches its owner is executed on what the take leaves. -/
theorem State.takeFunction_of_reaches {s : State} {seq : Byte} (h : Reaches s seq) (fn : Function)
    (run : State → State × Reply) : s.takeFunction seq fn run = (taken s seq fn).execute run := by
  obtain ⟨⟨hreport, hdrain⟩, ⟨hpass, hworking, hzero, hlast⟩, hopen⟩ := h
  rw [State.takeFunction_of_ready fn run hreport hdrain hpass hzero hlast hworking hopen, State.beginTake_quiet]
  rfl

/-! ### The outcome (R153) -/

theorem State.answer_done {s : State} (h : s.cmd.working ≠ none) (body : List Byte) :
    s.answer (.done body) = done s body := by
  obtain ⟨w, hw⟩ := Option.ne_none_iff_exists'.mp h
  simp [State.answer, done, settled, CommandUnit.settleOutcome_of_working hw, hw, State.setCmd]

theorem State.answer_refused {s : State} (h : s.cmd.working ≠ none) (r : Reason) :
    s.answer (.refused r) = refused s r := by
  obtain ⟨w, hw⟩ := Option.ne_none_iff_exists'.mp h
  simp [State.answer, refused, settled, CommandUnit.settleOutcome, hw, State.setCmd, flagRefused]

/-- With no check left, a function that keeps the Command Unit succeeds. -/
theorem State.answer_checked_nil {s t : State} (hw : s.cmd.working ≠ none) (hcmd : t.cmd = s.cmd) (body : List Byte) :
    (s.checked [] (t, .done body)).1.answer (s.checked [] (t, .done body)).2 = done t body := by
  rw [State.checked_nil]
  exact State.answer_done (hcmd ▸ hw) body

/-- A function whose first check fails exactly where `P` holds is refused there, and otherwise goes on with the other
checks. -/
theorem State.answer_checked_cons {s t : State} (hw : s.cmd.working ≠ none) {ok : Bool} {P : Prop} [Decidable P]
    (hok : ok = true ↔ ¬ P) (r : Reason) {rest : List (Bool × Reason)} {act : State × Reply}
    (hrest : (s.checked rest act).1.answer (s.checked rest act).2 = t) :
    (s.checked ((ok, r) :: rest) act).1.answer (s.checked ((ok, r) :: rest) act).2
      = if P then refused s r else t := by
  rw [State.checked_cons]
  split
  · next hpass => rw [if_neg (hok.mp hpass), hrest]
  · next hfail => rw [if_pos (not_not.mp (hfail ∘ hok.mpr)), State.answer_refused hw]

end Sys2Proof.Machine
end

section
/-! LoadBus and SetBusLevel (R58, R59): what each makes of the eight buses, and its refusals. -/

namespace Sys2Proof.Machine

open Sys2Proof.Spec

/-! ### LoadBus (R58) -/

theorem exec_loadBus (seq bus : Byte) (entries : List BusEntry) (s : State) :
    exec (.loadBus seq bus entries) s = .next (s.takeFunction seq .loadBus fun x => x.loadBus bus entries) := rfl

/-- The checks of R58 in order, and the one list that changes. -/
theorem State.execute_loadBus {s : State} (hw : s.cmd.working ≠ none) (bus : Byte) (es : List BusEntry) :
    s.execute (fun x => x.loadBus bus es)
      = if 7 < bus.toNat then refused s .badValue
        else if 32 < es.length then refused s .capacity
        else if ¬ ∀ e ∈ es, e.track.toNat ≤ 127 then refused s .badValue
        else if ¬ (es.map BusEntry.track).Nodup then refused s .duplicateEntry
        else
          done
            (s.setBuses (s.buses.modify bus.toNat fun b =>
              { b with target := es.map fun e => ⟨e.track.toNat, e.coefficient.toInt⟩ })) [] := by
  refine State.answer_checked_cons hw (by simp) _ ?_
  refine State.answer_checked_cons hw (by simp) _ ?_
  refine State.answer_checked_cons hw (by simp) _ ?_
  refine State.answer_checked_cons hw (by rw [noRepeats_iff, not_not]) _ ?_
  exact State.answer_checked_nil hw (s.setBuses_cmd _) []

/-- Settles O20: the take, the checks of R58, and the bus list changed at one number. -/
theorem loadBusResult : Obligations.LoadBusResult := by
  unfold Obligations.LoadBusResult
  intro s seq bus es hreach _ u
  have hchange := map_zipIdx_eq_modify
    (fun b : Bus => { b with target := es.map fun e => ⟨e.track.toNat, e.coefficient.toInt⟩ }) s.buses 0 bus.toNat
  rw [exec_loadBus, State.takeFunction_of_reaches hreach, State.execute_loadBus (taken_working _ _ _),
    taken_buses, ← hchange]
  rfl

/-! ### SetBusLevel (R59) -/

theorem exec_setBusLevel (seq : Byte) (entries : List LevelEntry) (s : State) :
    exec (.setBusLevel seq entries) s = .next (s.takeFunction seq .setBusLevel fun x => x.setBusLevel entries) := rfl

/-- Check 3 of R59: the entry names an input of its bus's Target list. -/
theorem levelEntryFits_iff (buses : List Bus) (e : LevelEntry) :
    LevelEntryFits buses e = true
      ↔ ∃ b ∈ buses[e.bus.toNat]?, e.track.toNat ∈ b.target.map BusInput.track := by
  unfold LevelEntryFits
  cases buses[e.bus.toNat]? with
  | none => simp
  | some b => simp

/-- An input that an entry names takes the coefficient of the first such entry. -/
theorem BusInput.relevel_of_named {n : Nat} {es : List LevelEntry} {i : BusInput} {e : LevelEntry}
    {rest : List LevelEntry}
    (h : (es.filter fun e => e.bus.toNat == n && e.track.toNat == i.track) = e :: rest) :
    i.relevel n es = ⟨i.track, e.coefficient.toInt⟩ := by
  have hfind : (es.find? fun e => e.bus.toNat == n && e.track.toNat == i.track) = some e := by
    rw [← List.head?_filter, h, List.head?_cons]
  simp only [BusInput.relevel, hfind]

theorem BusInput.relevel_of_not_named {n : Nat} {es : List LevelEntry} {i : BusInput}
    (h : (es.filter fun e => e.bus.toNat == n && e.track.toNat == i.track) = []) : i.relevel n es = i := by
  have hfind : (es.find? fun e => e.bus.toNat == n && e.track.toNat == i.track) = none := by
    rw [← List.head?_filter, h, List.head?_nil]
  simp only [BusInput.relevel, hfind]

/-- The walk along the buses relevels each by its number. -/
theorem relevelBuses_eq_map (es : List LevelEntry) (n : Nat) (buses : List Bus) :
    relevelBuses es n buses
      = (buses.zipIdx n).map fun p => { p.1 with target := p.1.target.map (BusInput.relevel p.2 es) } := by
  induction buses generalizing n with
  | nil => rfl
  | cons b bs ih => rw [relevelBuses, ih, List.zipIdx_cons, List.map_cons]

/-- The walk, said input by input. -/
theorem relevelBuses_eq (es : List LevelEntry) (buses : List Bus) :
    relevelBuses es 0 buses
      = buses.zipIdx.map fun (b, n) =>
          { b with
            target := b.target.map fun i =>
              match es.filter fun e => e.bus.toNat == n && e.track.toNat == i.track with
              | e :: _ => ⟨i.track, e.coefficient.toInt⟩
              | [] => i } := by
  rw [relevelBuses_eq_map]
  refine List.map_congr_left fun ⟨b, n⟩ _ => congrArg (fun l => { b with target := l }) ?_
  refine List.map_congr_left fun i _ => ?_
  split
  · next hnamed => exact BusInput.relevel_of_named hnamed
  · next hnone => exact BusInput.relevel_of_not_named hnone

/-- The checks of R59 in order, and the Target coefficients that change. -/
theorem State.execute_setBusLevel {s : State} (hw : s.cmd.working ≠ none) (es : List LevelEntry) :
    s.execute (fun x => x.setBusLevel es)
      = if es = [] then refused s .badValue
        else if 16 < es.length then refused s .capacity
        else if ¬ ∀ e ∈ es, ∃ b ∈ s.buses[e.bus.toNat]?, e.track.toNat ∈ b.target.map BusInput.track then
          refused s .badValue
        else if ¬ (es.map fun e => (e.bus, e.track)).Nodup then refused s .duplicateEntry
        else done (s.setBuses (relevelBuses es 0 s.buses)) [] := by
  refine State.answer_checked_cons hw (by rw [decide_eq_true_iff, Nat.one_le_iff_ne_zero, Ne, List.length_eq_zero_iff])
    _ ?_
  refine State.answer_checked_cons hw (by simp) _ ?_
  refine State.answer_checked_cons hw (by simp only [List.all_eq_true, levelEntryFits_iff, not_not]) _ ?_
  refine State.answer_checked_cons hw (by rw [noRepeats_iff, not_not]) _ ?_
  exact State.answer_checked_nil hw (s.setBuses_cmd _) []

/-- Settles O21: the take, the checks of R59, and each input releveled by the entry that names it. -/
theorem setBusLevelResult : Obligations.SetBusLevelResult := by
  unfold Obligations.SetBusLevelResult
  intro s seq es hreach _ u
  rw [exec_setBusLevel, State.takeFunction_of_reaches hreach, State.execute_setBusLevel (taken_working _ _ _),
    taken_buses, relevelBuses_eq]
  rfl

end Sys2Proof.Machine
end

section
/-! Archive coding (R80, R82): the residuals of a block, the bound of each order, and the mapping and its inverse. -/

namespace Sys2Proof.Machine

open Sys2Proof.Spec

/-! ### The residuals of a block (R80) -/

theorem residualsAfter_length (p : Nat) (before xs : List Int) :
    (residualsAfter p before xs).length = xs.length := by
  induction xs generalizing before with
  | nil => rfl
  | cons x xs ih => rw [residualsAfter, List.length_cons, List.length_cons, ih]

/-- A residual is predicted from the samples passed so far, newest first, and those before them. -/
theorem residualsAfter_getD (p : Nat) (before : List Int) {xs : List Int} {n : Nat} (hn : n < xs.length) :
    (residualsAfter p before xs).getD n 0 = xs.getD n 0 - predict p ((xs.take n).reverse ++ before) := by
  induction xs generalizing before n with
  | nil => exact absurd hn (Nat.not_lt_zero n)
  | cons x xs ih =>
    cases n with
    | zero => rfl
    | succ n =>
      have hrest := ih (x :: before) (Nat.lt_of_succ_lt_succ hn)
      simpa [residualsAfter] using hrest

theorem residualsFrom_length (p start : Nat) (xs : List Int) :
    (residualsFrom p start xs).length = xs.length - start := by
  rw [residualsFrom, residualsAfter_length, List.length_drop]

/-- The samples before position `start + n`, newest first, predict the sample there. -/
theorem residualsFrom_getD (p : Nat) {start n : Nat} {xs : List Int} (hn : start + n < xs.length) :
    (residualsFrom p start xs).getD n 0
      = xs.getD (start + n) 0 - predict p (xs.take (start + n)).reverse := by
  have hdrop : n < (xs.drop start).length := by rw [List.length_drop]; omega
  have hsample : (xs.drop start).getD n 0 = xs.getD (start + n) 0 := by
    simp only [List.getD_eq_getElem?_getD, List.getElem?_drop]
  rw [residualsFrom, residualsAfter_getD p _ hdrop, hsample, List.take_add, List.reverse_append]

/-- The k-th newest of the first `m` samples. -/
theorem getD_reverse_take {xs : List Int} {m k : Nat} (hk : k < m) (hm : m ≤ xs.length) :
    (xs.take m).reverse.getD k 0 = xs.getD (m - 1 - k) 0 := by
  have hlen : (xs.take m).length = m := List.length_take_of_le hm
  rw [List.getD_reverse k (by rwa [hlen]), hlen]
  simp only [List.getD_eq_getElem?_getD]
  rw [List.getElem?_take_of_lt (by omega)]

/-! ### The table of R80, order by order, and the bounds of its rows -/

theorem predict_zero (before : List Int) : predict 0 before = 0 := rfl

theorem predict_one (before : List Int) : predict 1 before = before.getD 0 0 := rfl

theorem predict_two (before : List Int) : predict 2 before = 2 * before.getD 0 0 - before.getD 1 0 := rfl

theorem predict_three (before : List Int) :
    predict 3 before = 3 * before.getD 0 0 - 3 * before.getD 1 0 + before.getD 2 0 := rfl

/-- Past the end of the block the model reads zero, which is a sample too. -/
theorem sample_getD_range {xs : List Int} (hs : AreSamples xs) (k : Nat) :
    -8388608 ≤ xs.getD k 0 ∧ xs.getD k 0 ≤ 8388607 := by
  by_cases hk : k < xs.length
  · rw [List.getD_eq_getElem _ _ hk]
    exact hs _ (List.getElem_mem hk)
  · rw [List.getD_eq_default _ _ (Nat.le_of_not_lt hk)]
    decide

section
variable {xs : List Int} {n : Nat}

theorem residual_order_zero (hn : 0 + n < xs.length) : (residualsFrom 0 0 xs).getD n 0 = xs.getD n 0 := by
  rw [residualsFrom_getD 0 hn, predict_zero, Int.sub_zero, Nat.zero_add]

theorem residual_order_one (hn : 1 + n < xs.length) :
    (residualsFrom 1 1 xs).getD n 0 = xs.getD (n + 1) 0 - xs.getD n 0 := by
  have hnewest : (xs.take (n + 1)).reverse.getD 0 0 = xs.getD n 0 := getD_reverse_take (by omega) (by omega)
  rw [residualsFrom_getD 1 hn, Nat.add_comm 1 n, predict_one, hnewest]

theorem residual_order_two (hn : 2 + n < xs.length) :
    (residualsFrom 2 2 xs).getD n 0 = xs.getD (n + 2) 0 - 2 * xs.getD (n + 1) 0 + xs.getD n 0 := by
  have hnewest : (xs.take (n + 2)).reverse.getD 0 0 = xs.getD (n + 1) 0 := getD_reverse_take (by omega) (by omega)
  have hsecond : (xs.take (n + 2)).reverse.getD 1 0 = xs.getD n 0 := getD_reverse_take (by omega) (by omega)
  rw [residualsFrom_getD 2 hn, Nat.add_comm 2 n, predict_two, hnewest, hsecond]
  ring

theorem residual_order_three (hn : 3 + n < xs.length) :
    (residualsFrom 3 3 xs).getD n 0
      = xs.getD (n + 3) 0 - 3 * xs.getD (n + 2) 0 + 3 * xs.getD (n + 1) 0 - xs.getD n 0 := by
  have hnewest : (xs.take (n + 3)).reverse.getD 0 0 = xs.getD (n + 2) 0 := getD_reverse_take (by omega) (by omega)
  have hsecond : (xs.take (n + 3)).reverse.getD 1 0 = xs.getD (n + 1) 0 := getD_reverse_take (by omega) (by omega)
  have hthird : (xs.take (n + 3)).reverse.getD 2 0 = xs.getD n 0 := getD_reverse_take (by omega) (by omega)
  rw [residualsFrom_getD 3 hn, Nat.add_comm 3 n, predict_three, hnewest, hsecond, hthird]
  ring

theorem residual_order_zero_le (hs : AreSamples xs) (hn : 0 + n < xs.length) :
    ((residualsFrom 0 0 xs).getD n 0).natAbs ≤ 2 ^ 23 := by
  have h0 := sample_getD_range hs n
  rw [residual_order_zero hn]
  omega

theorem residual_order_one_le (hs : AreSamples xs) (hn : 1 + n < xs.length) :
    ((residualsFrom 1 1 xs).getD n 0).natAbs ≤ 2 ^ 24 - 1 := by
  have h0 := sample_getD_range hs (n + 1)
  have h1 := sample_getD_range hs n
  rw [residual_order_one hn]
  omega

theorem residual_order_two_le (hs : AreSamples xs) (hn : 2 + n < xs.length) :
    ((residualsFrom 2 2 xs).getD n 0).natAbs ≤ 2 ^ 25 - 2 := by
  have h0 := sample_getD_range hs (n + 2)
  have h1 := sample_getD_range hs (n + 1)
  have h2 := sample_getD_range hs n
  rw [residual_order_two hn]
  omega

theorem residual_order_three_le (hs : AreSamples xs) (hn : 3 + n < xs.length) :
    ((residualsFrom 3 3 xs).getD n 0).natAbs ≤ 2 ^ 26 - 4 := by
  have h0 := sample_getD_range hs (n + 3)
  have h1 := sample_getD_range hs (n + 2)
  have h2 := sample_getD_range hs (n + 1)
  have h3 := sample_getD_range hs n
  rw [residual_order_three hn]
  omega

/-- The bound of order 3, the widest, holds for every order. -/
theorem residual_natAbs_le {p : Nat} (hs : AreSamples xs) (hp : p ≤ 3) (hn : p + n < xs.length) :
    ((residualsFrom p p xs).getD n 0).natAbs ≤ 2 ^ 26 - 4 := by
  match p, hp with
  | 0, _ => exact (residual_order_zero_le hs hn).trans (by decide)
  | 1, _ => exact (residual_order_one_le hs hn).trans (by decide)
  | 2, _ => exact (residual_order_two_le hs hn).trans (by decide)
  | 3, _ => exact residual_order_three_le hs hn

end

/-! ### The mapping (R82) -/

theorem mapResidual_cast (e : Int) : (mapResidual e : Int) = if 0 ≤ e then 2 * e else -2 * e - 1 := by
  unfold mapResidual
  split <;> omega

/-- Even values stand for the residuals from 0 on, odd ones for the negative. -/
theorem unmapped_mapResidual (e : Int) : unmapped (mapResidual e) = e := by
  have hcast := mapResidual_cast e
  unfold unmapped
  by_cases he : 0 ≤ e
  · rw [if_pos he] at hcast
    rw [if_pos (by omega)]
    omega
  · rw [if_neg he] at hcast
    rw [if_neg (by omega)]
    omega

theorem mapResidual_lt {e : Int} (he : e.natAbs ≤ 2 ^ 26 - 4) : mapResidual e < 2 ^ 27 := by
  have hcast := mapResidual_cast e
  split at hcast <;> omega

/-- Settles O55: the table of R80 with the bound of each order, and the mapping of R82, whose range follows from the
bound of order 3, the widest. -/
theorem residualsAreBoundedAndMapped : Obligations.ResidualsAreBoundedAndMapped := by
  unfold Obligations.ResidualsAreBoundedAndMapped
  intro xs p n hs hp hn x e
  refine ⟨residualsFrom_length p p xs, ?order0, ?order1, ?order2, ?order3, mapResidual_cast e,
    mapResidual_lt (residual_natAbs_le hs hp hn), unmapped_mapResidual e⟩
  case order0 => rintro rfl; exact ⟨residual_order_zero hn, residual_order_zero_le hs hn⟩
  case order1 => rintro rfl; exact ⟨residual_order_one hn, residual_order_one_le hs hn⟩
  case order2 => rintro rfl; exact ⟨residual_order_two hn, residual_order_two_le hs hn⟩
  case order3 => rintro rfl; exact ⟨residual_order_three hn, residual_order_three_le hs hn⟩

end Sys2Proof.Machine
end

section
/-! A safe state (R1, R18, R25, R57, R99, R114, R131, R137, R144, R155, R165): one rule for each setter of the machine,
and what the operations of the Path Unit, the Report Writer and the Archive Writer keep of their own capacities. -/

namespace Sys2Proof.Machine

/-! ### The Path Unit (R131, R137, R144) -/

/-- The Path Unit's part of a safe state: the capacities of its queues and the size of its loss table. -/
structure PathUnit.Safe (u : PathUnit) : Prop where
  within : u.WithinCapacity
  losses : u.mirrorLoss.length = 16

theorem PathUnit.withinCapacity_iff (u : PathUnit) :
    u.WithinCapacity ↔ u.forward.length ≤ 32 ∧ (u.waiting = [] ∨ u.forward.length = 32)
      ∧ ∀ p, (u.queues.get p).length ≤ p.capacity := by
  constructor
  · rintro ⟨hforward, hwaiting, hresponse, hreport, hstream, hmirror, harchive⟩
    refine ⟨hforward, hwaiting, fun p => ?_⟩
    cases p with
    | response => exact hresponse
    | report => exact hreport
    | stream => exact hstream
    | mirror => exact hmirror
    | archive => exact harchive
  · rintro ⟨hforward, hwaiting, hqueues⟩
    exact ⟨hforward, hwaiting, hqueues .response, hqueues .report, hqueues .stream, hqueues .mirror, hqueues .archive⟩

theorem PathUnit.Safe.queue_le {u : PathUnit} (h : u.Safe) (p : Producer) : (u.queues.get p).length ≤ p.capacity :=
  (u.withinCapacity_iff.mp h.within).2.2 p

/-- What leaves the requests alone is safe where the insertion queues and the loss table keep their sizes. -/
theorem PathUnit.Safe.of_requests {u v : PathUnit} (h : u.Safe) (hforward : v.forward = u.forward)
    (hwaiting : v.waiting = u.waiting) (hqueues : ∀ p, (v.queues.get p).length ≤ p.capacity)
    (hlosses : v.mirrorLoss.length = 16) : v.Safe := by
  obtain ⟨hcapacity, hport, -⟩ := u.withinCapacity_iff.mp h.within
  refine ⟨v.withinCapacity_iff.mpr ⟨?_, ?_, hqueues⟩, hlosses⟩
  · rwa [hforward]
  · rwa [hforward, hwaiting]

/-- Taking requests in fills the forward queue while requests wait. -/
theorem PathUnit.safe_takeIn {u : PathUnit} (hforward : u.forward.length ≤ 32)
    (hqueues : ∀ p, (u.queues.get p).length ≤ p.capacity) (hlosses : u.mirrorLoss.length = 16) : u.takeIn.Safe := by
  obtain ⟨-, hcapacity, hport, -⟩ := u.takeIn_spec
  exact ⟨u.takeIn.withinCapacity_iff.mpr ⟨hcapacity hforward, hport hforward, hqueues⟩, hlosses⟩

theorem PathUnit.Safe.arrive {u : PathUnit} (h : u.Safe) (addr : Nat) (write : Option WriteData) (tag : BitVec 4) :
    (u.arrive addr write tag).Safe := PathUnit.safe_takeIn h.within.forward h.queue_le h.losses

theorem PathUnit.Safe.dropHead {u : PathUnit} (h : u.Safe) : u.dropHead.Safe := by
  refine PathUnit.safe_takeIn ?_ h.queue_le h.losses
  have hforward : u.forward.length ≤ 32 := h.within.forward
  simp only [List.length_tail]
  omega

theorem PathUnit.Safe.recordPassing {u : PathUnit} (h : u.Safe) (r : Passing) (passOnly : Bool) :
    (u.recordPassing r passOnly).Safe := h.of_requests rfl rfl h.queue_le h.losses

/-- R137: a line enters a queue that has room. -/
theorem PathUnit.Safe.enqueue {u : PathUnit} (h : u.Safe) {p : Producer} (hroom : u.hasRoom p = true) (addr : Nat)
    (write : WriteData) (note : Note) : (u.enqueue p addr write note).Safe := by
  refine h.of_requests rfl rfl (fun q => ?_) h.losses
  rw [PathUnit.enqueue_get]
  split
  · next hq =>
    subst hq
    rw [List.length_append, List.length_singleton]
    exact (u.hasRoom_iff q).mp hroom
  · simpa using h.queue_le q

theorem PathUnit.Safe.issueInserted {u : PathUnit} (h : u.Safe) (p : Producer) : (u.issueInserted p).Safe := by
  cases hqueue : u.queues.get p with
  | nil => simpa only [PathUnit.issueInserted, hqueue] using h
  | cons l rest =>
    obtain ⟨hself, hother, -, -, hforward, hwaiting, -⟩ := PathUnit.issueInserted_spec hqueue
    refine h.of_requests hforward hwaiting (fun q => ?_) ?_
    · by_cases hq : q = p
      · subst hq
        have hlength := h.queue_le q
        rw [hqueue, List.length_cons] at hlength
        rw [hself]
        omega
      · rw [hother q hq]
        exact h.queue_le q
    · simpa only [PathUnit.issueInserted, hqueue] using h.losses

theorem PathUnit.Safe.endOutstanding {u : PathUnit} (h : u.Safe) (order : Nat) : (u.endOutstanding order).Safe :=
  h.of_requests rfl rfl h.queue_le h.losses

theorem PathUnit.Safe.countError {u : PathUnit} (h : u.Safe) (p : Producer) (closed : Option Nat) :
    (u.countError p closed).Safe := h.of_requests rfl rfl h.queue_le h.losses

theorem PathUnit.Safe.countRefusal {u : PathUnit} (h : u.Safe) (target : Nat) (closed : Option Nat) :
    (u.countRefusal target closed).Safe := by
  unfold PathUnit.countRefusal
  split
  · exact h.of_requests rfl rfl h.queue_le h.losses
  · exact h.of_requests rfl rfl h.queue_le h.losses

/-- R143: a copy enters the Mirror queue while that has room, and is counted lost otherwise. -/
theorem PathUnit.Safe.mirror {u : PathUnit} (h : u.Safe) (w : Nat) (r : WindowRecord) (addr : Nat) (d : WriteData)
    (closed : Option Nat) : (u.mirror w r addr d closed).Safe := by
  rcases u.mirror_cases w r addr d closed with ⟨-, heq⟩ | ⟨b, -, ⟨hroom, heq⟩ | ⟨-, heq⟩⟩
  · rwa [heq]
  · rw [heq]
    exact h.enqueue hroom _ _ _
  · rw [heq]
    exact h.of_requests rfl rfl h.queue_le ((List.length_modify _ _ _).trans h.losses)

theorem PathUnit.Safe.startSession {u : PathUnit} (h : u.Safe) : u.startSession.Safe :=
  h.of_requests rfl rfl h.queue_le List.length_replicate

theorem PathUnit.queues_of_response_le {response : List Inserted} (h : response.length ≤ 16) (p : Producer) :
    ((⟨response, [], [], [], []⟩ : PerProducer (List Inserted)).get p).length ≤ p.capacity := by
  cases p with
  | response => exact h
  | report => exact Nat.zero_le _
  | stream => exact Nat.zero_le _
  | mirror => exact Nat.zero_le _
  | archive => exact Nat.zero_le _

theorem PathUnit.Safe.restart {u : PathUnit} (h : u.Safe) (pin : Bool) : (u.restart pin).Safe :=
  h.of_requests rfl rfl (PathUnit.queues_of_response_le (h.queue_le .response)) h.losses

theorem PathUnit.Safe.pathReset {u : PathUnit} (h : u.Safe) : u.pathReset.Safe :=
  PathUnit.safe_takeIn (Nat.zero_le _) (PathUnit.queues_of_response_le (Nat.zero_le _)) h.losses

theorem PathUnit.Safe.passOnlyReset {u : PathUnit} (h : u.Safe) : u.passOnlyReset.Safe :=
  PathUnit.safe_takeIn (Nat.zero_le _) h.queue_le h.losses

/-! ### The rules of the setters -/

theorem State.Safe.path_safe {s : State} (h : s.Safe) : s.path.Safe := ⟨h.path, h.tables.losses⟩

theorem State.Safe.setPorts {s : State} (h : s.Safe) (x : Ports) : (s.setPorts x).Safe :=
  ⟨h.path, h.archive, h.records, h.command, ⟨h.tables.windows, h.tables.tracks, h.tables.buses, h.tables.streams,
    h.tables.losses, h.tables.buffers⟩⟩

theorem State.Safe.setPath {s : State} (h : s.Safe) {u : PathUnit} (hu : u.Safe) : (s.setPath u).Safe :=
  ⟨hu.within, h.archive, h.records, h.command, ⟨h.tables.windows, h.tables.tracks, h.tables.buses, h.tables.streams,
    hu.losses, h.tables.buffers⟩⟩

theorem State.Safe.setCmd {s : State} (h : s.Safe) {u : CommandUnit} (hu : u.WithinCapacity) : (s.setCmd u).Safe :=
  ⟨h.path, h.archive, h.records, hu, ⟨h.tables.windows, h.tables.tracks, h.tables.buses, h.tables.streams,
    h.tables.losses, h.tables.buffers⟩⟩

theorem State.Safe.setSess {s : State} (h : s.Safe) {c : SessionControl} (hc : c.windows.length = s.sess.windows.length) :
    (s.setSess c).Safe :=
  ⟨h.path, h.archive, h.records, h.command, ⟨hc.trans h.tables.windows, h.tables.tracks, h.tables.buses,
    h.tables.streams, h.tables.losses, h.tables.buffers⟩⟩

theorem State.Safe.setBuffers {s : State} (h : s.Safe) {x : List Buffer} (hx : x.length ≤ poolSize) :
    (s.setBuffers x).Safe :=
  ⟨h.path, h.archive, h.records, h.command, ⟨h.tables.windows, h.tables.tracks, h.tables.buses, h.tables.streams,
    h.tables.losses, hx⟩⟩

theorem State.Safe.setTracks {s : State} (h : s.Safe) {x : List Track} (hx : x.length = s.tracks.length) :
    (s.setTracks x).Safe :=
  ⟨h.path, h.archive, h.records, h.command, ⟨h.tables.windows, hx.trans h.tables.tracks, h.tables.buses,
    h.tables.streams, h.tables.losses, h.tables.buffers⟩⟩

theorem State.Safe.setFt {s : State} (h : s.Safe) (x : FrameTable) : (s.setFt x).Safe :=
  ⟨h.path, h.archive, h.records, h.command, ⟨h.tables.windows, h.tables.tracks, h.tables.buses, h.tables.streams,
    h.tables.losses, h.tables.buffers⟩⟩

theorem State.Safe.setBuses {s : State} (h : s.Safe) {x : List Bus} (hx : x.length = s.buses.length) :
    (s.setBuses x).Safe :=
  ⟨h.path, h.archive, h.records, h.command, ⟨h.tables.windows, h.tables.tracks, hx.trans h.tables.buses,
    h.tables.streams, h.tables.losses, h.tables.buffers⟩⟩

theorem State.Safe.setAw {s : State} (h : s.Safe) {w : ArchiveWriter} (hw : w.InArea) : (s.setAw w).Safe :=
  ⟨h.path, hw, h.records, h.command, ⟨h.tables.windows, h.tables.tracks, h.tables.buses, h.tables.streams,
    h.tables.losses, h.tables.buffers⟩⟩

theorem State.Safe.setSw {s : State} (h : s.Safe) {w : StreamWriter} (hw : w.streams.length = s.sw.streams.length) :
    (s.setSw w).Safe :=
  ⟨h.path, h.archive, h.records, h.command, ⟨h.tables.windows, h.tables.tracks, h.tables.buses,
    hw.trans h.tables.streams, h.tables.losses, h.tables.buffers⟩⟩

theorem State.Safe.setRw {s : State} (h : s.Safe) {w : ReportWriter} (hw : w.WithinCapacity) : (s.setRw w).Safe :=
  ⟨h.path, h.archive, hw, h.command, ⟨h.tables.windows, h.tables.tracks, h.tables.buses, h.tables.streams,
    h.tables.losses, h.tables.buffers⟩⟩

theorem State.Safe.setReport {s : State} (h : s.Safe) (x : Option Report) : (s.setReport x).Safe :=
  ⟨h.path, h.archive, h.records, h.command, ⟨h.tables.windows, h.tables.tracks, h.tables.buses, h.tables.streams,
    h.tables.losses, h.tables.buffers⟩⟩

theorem State.Safe.setFreeCount {s : State} (h : s.Safe) (x : Nat) : (s.setFreeCount x).Safe :=
  ⟨h.path, h.archive, h.records, h.command, ⟨h.tables.windows, h.tables.tracks, h.tables.buses, h.tables.streams,
    h.tables.losses, h.tables.buffers⟩⟩

theorem State.Safe.fileAll {s : State} (h : s.Safe) (rs : List Record) : (s.fileAll rs).Safe :=
  h.setRw ((ReportWriter.foldl_file_keeps rs s.rw).2.2.2.2 h.records)

theorem State.Safe.file {s : State} (h : s.Safe) (r : Record) : (s.file r).Safe := h.fileAll [r]

theorem State.Safe.fileEither {s : State} (h : s.Safe) (a b : List Record) : (s.fileEither a b).Safe :=
  (h.fileAll _).setFreeCount _

theorem State.safe_ite {c : Prop} [Decidable c] {a b : State} (ha : a.Safe) (hb : b.Safe) :
    (if c then a else b).Safe := by
  split
  · exact ha
  · exact hb

/-! ### The Command Unit (R155) -/

/-- What leaves the open sequence alone keeps its staged bytes. -/
theorem CommandUnit.WithinCapacity.of_eq {u v : CommandUnit} (h : u.WithinCapacity)
    (heq : v.openSequence = u.openSequence) : v.WithinCapacity := fun q hq => h q (heq ▸ hq)

theorem CommandUnit.withinCapacity_of_none {u : CommandUnit} (h : u.openSequence = none) : u.WithinCapacity :=
  fun q hq => by simp [h] at hq

@[simp] theorem CommandUnit.settleOutcome_openSequence (u : CommandUnit) (flags : BitVec 16) (reason : Reason)
    (body : List Byte) : (u.settleOutcome flags reason body).openSequence = u.openSequence := by
  unfold CommandUnit.settleOutcome
  split <;> rfl

@[simp] theorem CommandUnit.overrun_openSequence (u : CommandUnit) : u.overrun.openSequence = u.openSequence := by
  unfold CommandUnit.overrun
  split
  · rfl
  · dsimp only
    split
    · rfl
    · split <;> rfl

@[simp] theorem CommandUnit.dropHeadLine_openSequence (u : CommandUnit) :
    u.dropHeadLine.openSequence = u.openSequence := by
  unfold CommandUnit.dropHeadLine
  split <;> rfl

@[simp] theorem CommandUnit.finalForwarded_openSequence (u : CommandUnit) :
    u.finalForwarded.openSequence = u.openSequence := by
  unfold CommandUnit.finalForwarded
  split <;> rfl

end Sys2Proof.Machine
end

section
/-! The segment table (R96, R99, R101): how a segment is read and changed by its number, what appending its directory
record does, and that every operation of the Archive Writer keeps one entry for each data segment and at most one OPEN. -/

namespace Sys2Proof.Machine

/-! ### Segments by number (R99) -/

@[simp] theorem ArchiveWriter.segment_succ (w : ArchiveWriter) (n : Nat) : w.segment (n + 1) = w.segments[n]? := rfl

@[simp] theorem ArchiveWriter.modifySegment_succ (w : ArchiveWriter) (n : Nat) (f : Segment → Segment) :
    w.modifySegment (n + 1) f = { w with segments := w.segments.modify n f } := rfl

@[simp] theorem ArchiveWriter.modifySegment_zero (w : ArchiveWriter) (f : Segment → Segment) :
    w.modifySegment 0 f = w := rfl

@[simp] theorem ArchiveWriter.modifySegment_area (w : ArchiveWriter) (n : Nat) (f : Segment → Segment) :
    (w.modifySegment n f).area = w.area := by
  cases n <;> rfl

theorem ArchiveWriter.openSegment_eq_none_iff (w : ArchiveWriter) :
    w.openSegment = none ↔ ∀ x ∈ w.segments, x.state ≠ .opened := by
  simp [ArchiveWriter.openSegment, ArchiveWriter.lowest, List.findIdx?_eq_none_iff]

/-- The OPEN segment has a number from 1 on and an OPEN entry. -/
theorem ArchiveWriter.openSegment_spec {w : ArchiveWriter} {n : Nat} (h : w.openSegment = some n) :
    ∃ m x, n = m + 1 ∧ w.segments[m]? = some x ∧ x.state = .opened := by
  obtain ⟨m, hfind, rfl⟩ := Option.map_eq_some_iff.mp h
  obtain ⟨hm, hopen, -⟩ := List.findIdx?_eq_some_iff_getElem.mp hfind
  exact ⟨m, w.segments[m], rfl, List.getElem?_eq_getElem hm, beq_iff_eq.mp hopen⟩

/-! ### The number of OPEN segments -/

/-- Changing one entry changes a count by what it was and what it becomes. -/
theorem countP_modify_add {α : Type} (p : α → Bool) (f : α → α) {l : List α} {n : Nat} {x : α} (h : l[n]? = some x) :
    (l.modify n f).countP p + (if p x then 1 else 0) = l.countP p + if p (f x) then 1 else 0 := by
  induction l generalizing n with
  | nil => simp at h
  | cons y ys ih =>
    cases n with
    | zero =>
      obtain rfl : y = x := by simpa using h
      simp only [List.modify_zero_cons, List.countP_cons]
      omega
    | succ n =>
      have hrest := ih (n := n) (by simpa using h)
      simp only [List.modify_succ_cons, List.countP_cons]
      omega

theorem modify_of_not_getElem? {α : Type} (f : α → α) {l : List α} {n : Nat} (h : l[n]? = none) :
    l.modify n f = l := by
  rw [List.modify_eq_set_getElem?, h]
  rfl

def ArchiveWriter.openCount (w : ArchiveWriter) : Nat := w.segments.countP fun x => x.state == .opened

theorem ArchiveWriter.openCount_eq_zero_iff (w : ArchiveWriter) : w.openCount = 0 ↔ w.openSegment = none := by
  rw [ArchiveWriter.openSegment_eq_none_iff, ArchiveWriter.openCount, List.countP_eq_zero]
  simp

theorem ArchiveWriter.openCount_modifySegment (w : ArchiveWriter) (n : Nat) {f : Segment → Segment}
    (hf : ∀ x, (f x).state = x.state) : (w.modifySegment n f).openCount = w.openCount := by
  cases n with
  | zero => rfl
  | succ n =>
    cases hx : w.segments[n]? with
    | none => simp only [modifySegment_succ, modify_of_not_getElem? f hx]
    | some x =>
      have hcount := countP_modify_add (fun x => x.state == .opened) f hx
      rw [hf x] at hcount
      exact Nat.add_right_cancel hcount

/-- A segment that ends up not OPEN adds nothing to the count. -/
theorem ArchiveWriter.openCount_modifySegment_le (w : ArchiveWriter) (n : Nat) {f : Segment → Segment}
    (hf : ∀ x, (f x).state ≠ .opened) : (w.modifySegment n f).openCount ≤ w.openCount := by
  cases n with
  | zero => exact le_rfl
  | succ n =>
    cases hx : w.segments[n]? with
    | none => simp only [modifySegment_succ, modify_of_not_getElem? f hx, le_refl]
    | some x =>
      have hcount := countP_modify_add (fun x => x.state == .opened) f hx
      rw [if_neg (c := ((f x).state == SegState.opened) = true) (by simpa using hf x)] at hcount
      exact (Nat.le_add_right _ _).trans hcount.le

theorem ArchiveWriter.openCount_modifySegment_le_succ (w : ArchiveWriter) (n : Nat) (f : Segment → Segment) :
    (w.modifySegment n f).openCount ≤ w.openCount + 1 := by
  cases n with
  | zero => exact Nat.le_succ _
  | succ n =>
    cases hx : w.segments[n]? with
    | none =>
      simp only [modifySegment_succ, modify_of_not_getElem? f hx]
      exact Nat.le_succ _
    | some x =>
      have hcount := countP_modify_add (fun x => x.state == .opened) f hx
      refine (Nat.le_add_right _ _).trans (hcount.le.trans (Nat.add_le_add_left ?_ _))
      split
      · exact le_rfl
      · exact Nat.zero_le _

/-- Where one segment at most is OPEN, none is once that one has become something else. -/
theorem ArchiveWriter.openCount_modifySegment_eq_zero {w : ArchiveWriter} {n : Nat} (hone : w.openCount ≤ 1)
    (hopen : w.openSegment = some n) {f : Segment → Segment} (hf : ∀ x, (f x).state ≠ .opened) :
    (w.modifySegment n f).openCount = 0 := by
  obtain ⟨m, x, rfl, hx, hstate⟩ := ArchiveWriter.openSegment_spec hopen
  have hcount := countP_modify_add (fun x => x.state == .opened) f hx
  rw [if_pos (c := _ = true) (by simpa using hstate), if_neg (c := _ = true) (by simpa using hf x)] at hcount
  simp only [ArchiveWriter.openCount, modifySegment_succ] at hone ⊢
  omega

/-! ### The size of the table and the count of OPEN segments under each operation -/

theorem ArchiveWriter.inArea_iff (w : ArchiveWriter) :
    w.InArea ↔ w.segments.length = (w.area.map fun a => a.count - 1).getD 0 ∧ w.openCount ≤ 1 :=
  ⟨fun h => ⟨h.table, h.oneOpen⟩, fun h => ⟨h.1, h.2⟩⟩

/-- The area and the table keep their sizes. -/
def ArchiveWriter.SameTable (v w : ArchiveWriter) : Prop := v.area = w.area ∧ v.segments.length = w.segments.length

theorem ArchiveWriter.InArea.of_sameTable {v w : ArchiveWriter} (h : w.InArea) (hsame : v.SameTable w)
    (hone : v.openCount ≤ 1) : v.InArea := by
  obtain ⟨harea, hlength⟩ := hsame
  exact v.inArea_iff.mpr ⟨by rw [hlength, harea, h.table], hone⟩

theorem ArchiveWriter.InArea.of_eq {v w : ArchiveWriter} (h : w.InArea) (harea : v.area = w.area)
    (hsegments : v.segments = w.segments) : v.InArea :=
  h.of_sameTable ⟨harea, congrArg List.length hsegments⟩ (by
    rw [ArchiveWriter.openCount, hsegments]
    exact h.oneOpen)

theorem ArchiveWriter.SameTable.trans {u v w : ArchiveWriter} (h : u.SameTable v) (h' : v.SameTable w) :
    u.SameTable w := ⟨h.1.trans h'.1, h.2.trans h'.2⟩

theorem ArchiveWriter.modifySegment_sameTable (w : ArchiveWriter) (n : Nat) (f : Segment → Segment) :
    (w.modifySegment n f).SameTable w := by
  cases n with
  | zero => exact ⟨rfl, rfl⟩
  | succ n => exact ⟨rfl, List.length_modify _ _ _⟩

/-- Appending a directory record changes no state of a segment. -/
theorem ArchiveWriter.appendRecord_table (w : ArchiveWriter) (n : Nat) :
    (w.appendRecord n).SameTable w ∧ (w.appendRecord n).openCount = w.openCount := by
  unfold ArchiveWriter.appendRecord
  split
  · exact ⟨w.modifySegment_sameTable n _, w.openCount_modifySegment n fun _ => rfl⟩
  · exact ⟨⟨rfl, rfl⟩, rfl⟩

theorem ArchiveWriter.appendHeader_area (w : ArchiveWriter) : w.appendHeader.area = w.area := by
  unfold ArchiveWriter.appendHeader
  split <;> rfl

theorem ArchiveWriter.appendHeader_segments (w : ArchiveWriter) : w.appendHeader.segments = w.segments := by
  unfold ArchiveWriter.appendHeader
  split <;> rfl

theorem ArchiveWriter.evaluateWarning_area (w : ArchiveWriter) : w.evaluateWarning.area = w.area := by
  unfold ArchiveWriter.evaluateWarning
  split <;> rfl

theorem ArchiveWriter.evaluateWarning_segments (w : ArchiveWriter) : w.evaluateWarning.segments = w.segments := by
  unfold ArchiveWriter.evaluateWarning
  split <;> rfl

theorem ArchiveWriter.InArea.evaluateWarning {w : ArchiveWriter} (h : w.InArea) : w.evaluateWarning.InArea :=
  h.of_eq w.evaluateWarning_area w.evaluateWarning_segments

theorem ArchiveWriter.InArea.appendHeader {w : ArchiveWriter} (h : w.InArea) : w.appendHeader.InArea :=
  h.of_eq w.appendHeader_area w.appendHeader_segments

theorem ArchiveWriter.InArea.appendRecord {w : ArchiveWriter} (h : w.InArea) (n : Nat) : (w.appendRecord n).InArea :=
  h.of_sameTable (w.appendRecord_table n).1 ((w.appendRecord_table n).2.le.trans h.oneOpen)

theorem ArchiveWriter.InArea.foldl_appendRecord {w : ArchiveWriter} (h : w.InArea) (ns : List Nat) :
    (ns.foldl (fun v n => v.appendRecord n) w).InArea := List.foldlRecOn ns _ h fun _ hv n _ => hv.appendRecord n

theorem ArchiveWriter.InArea.modifySegment {w : ArchiveWriter} (h : w.InArea) (n : Nat) {f : Segment → Segment}
    (hf : ∀ x, (f x).state = x.state) : (w.modifySegment n f).InArea :=
  h.of_sameTable (w.modifySegment_sameTable n f) ((w.openCount_modifySegment n hf).le.trans h.oneOpen)

theorem ArchiveWriter.InArea.modifySegment_of_shut {w : ArchiveWriter} (h : w.InArea) (n : Nat)
    {f : Segment → Segment} (hf : ∀ x, (f x).state ≠ .opened) : (w.modifySegment n f).InArea :=
  h.of_sameTable (w.modifySegment_sameTable n f) ((w.openCount_modifySegment_le n hf).trans h.oneOpen)

/-- R103, case 3: with no segment OPEN, one opens. -/
theorem ArchiveWriter.InArea.openAt {w : ArchiveWriter} (h : w.InArea) (hnone : w.openCount = 0) (n g serial : Nat) :
    (w.openAt n g serial).InArea := by
  have hopened : ∀ f : Segment → Segment, (w.modifySegment n f).InArea := fun f =>
    h.of_sameTable (w.modifySegment_sameTable n f) ((w.openCount_modifySegment_le_succ n f).trans (by omega))
  exact ((hopened _).appendRecord n).of_eq rfl rfl

/-- R99, R103, R109: the OPEN segment closes, and none is OPEN then. -/
theorem ArchiveWriter.InArea.closeAt {w : ArchiveWriter} (h : w.InArea) {n : Nat} (hopen : w.openSegment = some n)
    (cause : CloseCause) : (w.closeAt n cause).InArea ∧ (w.closeAt n cause).openCount = 0 := by
  have hshut : ∀ x : Segment, ({ x with state := .closed, settled := false, cause := cause } : Segment).state ≠ .opened :=
    fun _ => by simp
  exact ⟨((h.modifySegment_of_shut n hshut).appendRecord n).of_eq rfl rfl,
    (ArchiveWriter.appendRecord_table _ n).2.trans (ArchiveWriter.openCount_modifySegment_eq_zero h.oneOpen hopen hshut)⟩

/-- R106: a segment that returns to FREE. -/
theorem ArchiveWriter.InArea.freeAt {w : ArchiveWriter} (h : w.InArea) (n : Nat) : (w.freeAt n).InArea :=
  (h.modifySegment_of_shut n fun _ => by simp [Segment.fresh]).appendRecord n

theorem ArchiveWriter.InArea.settle {w : ArchiveWriter} (h : w.InArea) (n : Nat) : (w.settle n).InArea :=
  (h.modifySegment n (f := fun x => { x with settled := true }) fun _ => rfl).of_eq rfl rfl

theorem ArchiveWriter.InArea.frameForwarded {w : ArchiveWriter} (h : w.InArea) (n g count used : Nat) :
    (w.frameForwarded n g count used).InArea :=
  h.modifySegment n fun x => by
    split
    · rfl
    · rfl

theorem ArchiveWriter.InArea.placeIn {w : ArchiveWriter} (h : w.InArea) (info : FrameInfo) (f : Frame)
    (parts : List EntryRef) (n : Nat) : (w.placeIn info f parts n).InArea := by
  unfold ArchiveWriter.placeIn
  split
  · exact (h.modifySegment n (f := fun x =>
      { x with last := f.number, count := x.count + 1, used := x.used + frameLength parts }) fun _ => rfl).of_eq rfl rfl
  · exact h

theorem ArchiveWriter.InArea.placeFresh {w : ArchiveWriter} (h : w.InArea) (hnone : w.openCount = 0)
    (info : FrameInfo) (f : Frame) (parts : List EntryRef) (newest : Option Nat) :
    (w.placeFresh info f parts newest).1.InArea := by
  unfold ArchiveWriter.placeFresh
  split
  · exact (h.openAt hnone _ _ _).evaluateWarning.placeIn _ _ _ _
  · exact h.of_eq rfl rfl

/-- R103: a frame is placed in the OPEN segment, in one that opens once that one has closed, or nowhere. -/
theorem ArchiveWriter.InArea.place {w : ArchiveWriter} (h : w.InArea) (info : FrameInfo) (f : Frame)
    (newest : Option Nat) : (w.place info f newest).1.InArea := by
  unfold ArchiveWriter.place
  dsimp only
  split
  · next n a hopen _ =>
    split
    · exact h.placeIn _ _ _ _
    · obtain ⟨hin, hzero⟩ := h.closeAt hopen .rolled
      exact hin.placeFresh hzero _ _ _ _
  · next hother =>
    refine h.placeFresh ((w.openCount_eq_zero_iff).mpr ?_) _ _ _ _
    by_contra hopen
    obtain ⟨n, hn⟩ := Option.ne_none_iff_exists'.mp hopen
    obtain ⟨m, x, -, hx, -⟩ := ArchiveWriter.openSegment_spec hn
    obtain ⟨hm, -⟩ := List.getElem?_eq_some_iff.mp hx
    cases harea : w.area with
    | none =>
      have hlength := h.table
      rw [harea] at hlength
      exact absurd hm (by simp [hlength])
    | some a => exact hother n a hn harea

theorem ArchiveWriter.InArea.takeFrame {w : ArchiveWriter} (h : w.InArea) (info : FrameInfo) (f : Frame)
    (newest : Option Nat) : (w.takeFrame info f newest).1.InArea := by
  unfold ArchiveWriter.takeFrame
  split
  · exact h
  · split
    · exact h.of_eq rfl rfl
    · exact h.place _ _ _

theorem ArchiveWriter.InArea.dropHeadLine {w : ArchiveWriter} (h : w.InArea) : w.dropHeadLine.InArea := by
  unfold ArchiveWriter.dropHeadLine
  split
  · exact h
  · exact h.of_eq rfl rfl
  · exact h.of_eq rfl rfl

theorem ArchiveWriter.InArea.stopSession {w : ArchiveWriter} (h : w.InArea) : w.stopSession.InArea := by
  unfold ArchiveWriter.stopSession
  split
  · next n hopen => exact (h.closeAt hopen .stopped).1.of_eq rfl rfl
  · exact h.of_eq rfl rfl

/-- R97: the new table is FREE throughout. -/
theorem ArchiveWriter.inArea_configure (w : ArchiveWriter) (a : Area) : (w.configure a).InArea := by
  have hfresh : ArchiveWriter.InArea
      { w with
        area := some a, segments := List.replicate (a.count - 1) Segment.fresh, full := false, warning := false
        updateSerial := 0 } :=
    ⟨List.length_replicate, by simp [List.countP_replicate, Segment.fresh]⟩
  exact (List.foldlRecOn (List.range (a.count - 1)) (fun (v : ArchiveWriter) i => v.appendRecord (i + 1))
    hfresh.appendHeader fun _ hv i _ => hv.appendRecord (i + 1)).evaluateWarning

/-- R110: the OPEN segment closes, and the records that were pending are appended again. -/
theorem ArchiveWriter.InArea.resetKept {w : ArchiveWriter} (h : w.InArea) (queue : List Inserted) (always : Bool) :
    (w.resetKept queue always).InArea := by
  have hheader : ∀ c : Bool, (if c then ArchiveWriter.appendHeader
        { w with out := [], staging := [], archiving := false, full := false, closing := none }
      else { w with out := [], staging := [], archiving := false, full := false, closing := none }).InArea := by
    intro c
    split
    · exact ArchiveWriter.InArea.appendHeader (h.of_eq rfl rfl)
    · exact h.of_eq rfl rfl
  refine ArchiveWriter.InArea.foldl_appendRecord ?_ _
  split
  · next n _ =>
    exact (((hheader _).modifySegment_of_shut n (f := Segment.closeByReset) fun _ => by
      simp [Segment.closeByReset]).appendRecord n).of_eq rfl rfl
  · exact hheader _

theorem ArchiveWriter.inArea_resetUnpinned (w : ArchiveWriter) : w.resetUnpinned.InArea := ⟨rfl, Nat.zero_le 1⟩

end Sys2Proof.Machine
end

section
/-! The walks along the tables, which count their entries as they go, said as maps over the numbered entries. -/

namespace Sys2Proof.Machine

/-- A walk that makes one entry of each is a map over the numbered entries. -/
theorem walk_eq_map_zipIdx {α β : Type} {walk : Nat → List α → List β} {f : α × Nat → β} (hnil : ∀ n, walk n [] = [])
    (hcons : ∀ n x xs, walk n (x :: xs) = f (x, n) :: walk (n + 1) xs) (n : Nat) (l : List α) :
    walk n l = (l.zipIdx n).map f := by
  induction l generalizing n with
  | nil => exact hnil n
  | cons x xs ih => rw [hcons, ih, List.zipIdx_cons, List.map_cons]

/-- A walk that makes a list of each entry is a flat map over the numbered entries. -/
theorem walk_eq_flatMap_zipIdx {α β : Type} {walk : Nat → List α → List β} {f : α × Nat → List β}
    (hnil : ∀ n, walk n [] = []) (hcons : ∀ n x xs, walk n (x :: xs) = f (x, n) ++ walk (n + 1) xs) (n : Nat)
    (l : List α) : walk n l = (l.zipIdx n).flatMap f := by
  induction l generalizing n with
  | nil => exact hnil n
  | cons x xs ih => rw [hcons, ih, List.zipIdx_cons, List.flatMap_cons]

theorem countAbandoned_eq (buffers : List Buffer) (g n : Nat) (ws : List Window) :
    countAbandoned buffers g n ws
      = (ws.zipIdx n).map fun p =>
          { p.1 with
            counts :=
              { p.1.counts with incomplete := satAdd p.1.counts.incomplete (abandonedIn buffers g p.2) } } :=
  walk_eq_map_zipIdx (fun _ => rfl) (fun _ _ _ => rfl) n ws

theorem closeWindows_eq (tracks : List Track) (f : Frame) (n : Nat) (ws : List Window) :
    closeWindows tracks f n ws
      = (ws.zipIdx n).map fun p =>
          match p.1.record with
          | some r => if hasSourceLane tracks p.2 then p.1.close r.liveLimit (f.heard p.2) else p.1
          | none => p.1 :=
  walk_eq_map_zipIdx (fun _ => rfl) (fun _ _ _ => rfl) n ws

theorem closeWindowRecords_eq (tracks : List Track) (f : Frame) (n : Nat) (ws : List Window) :
    closeWindowRecords tracks f n ws
      = (ws.zipIdx n).flatMap fun p =>
          match p.1.record with
          | some r =>
            if hasSourceLane tracks p.2 then p.1.closeRecords r.liveLimit (f.heard p.2) p.2 f.number else []
          | none => [] :=
  walk_eq_flatMap_zipIdx (fun _ => rfl) (fun _ _ _ => rfl) n ws

theorem closeTracks_eq (f : Frame) (held : List Frame) (n : Nat) (ts : List Track) :
    closeTracks f held n ts
      = (ts.zipIdx n).map fun p =>
          if p.1.record.enabled then p.1.close (f.wonBy p.2) (held.any fun h => (h.winner p.2).isSome) else p.1 :=
  walk_eq_map_zipIdx (fun _ => rfl) (fun _ _ _ => rfl) n ts

theorem closeTrackRecords_eq (f : Frame) (held : List Frame) (n : Nat) (ts : List Track) :
    closeTrackRecords f held n ts
      = (ts.zipIdx n).flatMap fun p =>
          if p.1.record.enabled then
            p.1.lostRecords p.2 f.number (f.wonBy p.2) (held.any fun h => (h.winner p.2).isSome)
          else [] :=
  walk_eq_flatMap_zipIdx (fun _ => rfl) (fun _ _ _ => rfl) n ts

theorem muteBuses_eq (selection : Byte) (on : Bool) (n : Nat) (buses : List Bus) :
    muteBuses selection on n buses
      = (buses.zipIdx n).map fun p => if selection.getLsbD p.2 then { p.1 with muteTarget := on } else p.1 :=
  walk_eq_map_zipIdx (fun _ => rfl) (fun _ _ _ => rfl) n buses

theorem replaceWindows_eq (entries : List WindowEntry) (n : Nat) (ws : List Window) :
    replaceWindows entries n ws
      = (ws.zipIdx n).map fun p => { p.1 with record := (entryOf entries p.2).map WindowEntry.record } :=
  walk_eq_map_zipIdx (fun _ => rfl) (fun _ _ _ => rfl) n ws

theorem replaceTracks_eq (entries : List TrackEntry) (n : Nat) (ts : List Track) :
    replaceTracks entries n ts
      = (ts.zipIdx n).map fun p =>
          { p.1 with
            record := match entries.find? fun e => e.track == p.2 with
              | some e => e.record
              | none => TrackRecord.default } :=
  walk_eq_map_zipIdx (fun _ => rfl) (fun _ _ _ => rfl) n ts

theorem startStreams_eq (n : Nat) (xs : List Stream) :
    startStreams n xs = (xs.zipIdx n).map fun p => p.1.startSession p.2 :=
  walk_eq_map_zipIdx (fun _ => rfl) (fun _ _ _ => rfl) n xs

@[simp] theorem meterBuses_length (accs : List (List Int)) (buses : List Bus) :
    (meterBuses accs buses).length = buses.length := by
  induction accs generalizing buses with
  | nil => simp [meterBuses]
  | cons acc accs ih =>
    cases buses with
    | nil => simp [meterBuses]
    | cons b bs => simp [meterBuses, ih]

@[simp] theorem finalise_buses_length (blockSize : Nat) (buses : List Bus) (f : Frame) :
    (finalise blockSize buses f).buses.length = buses.length := by
  unfold finalise
  split
  · rfl
  · exact meterBuses_length _ _

@[simp] theorem takeStreams_streams_length (info : FrameInfo) (f : Frame) (final : List FinalBus) (k : Nat)
    (seen : List RecordKind) (xs : List Stream) :
    (takeStreams info f final k seen xs).streams.length = xs.length := by
  induction xs generalizing k seen with
  | nil => rfl
  | cons x xs ih =>
    rw [takeStreams, List.length_cons]
    dsimp only
    rw [List.length_append, ih]
    split <;> simp [takeStream, Nat.add_comm]

end Sys2Proof.Machine
end

section
/-! Closing, opening and capturing keep a state safe (R8 to R22, R28 to R35, R41 to R48). -/

namespace Sys2Proof.Machine

/-! ### Closing (R43, R47, R48) -/

theorem State.Safe.evaluateClose {s : State} (h : s.Safe) (f : Frame) : (s.evaluateClose f).Safe := by
  refine State.Safe.fileEither (State.Safe.setTracks (h.setSess ?_) ?_) _ _
  · simp [closeWindows_eq]
  · simp [closeTracks_eq]

theorem State.Safe.produce {s : State} (h : s.Safe) (f : Frame) : (s.produce f).Safe := by
  have hmixed := h.setBuses (finalise_buses_length s.sess.blockSize s.buses f)
  have harchived := (hmixed.setAw (h.archive.takeFrame s.sess.info f s.ft.newest)).fileEither
    (finalise s.sess.blockSize s.buses f).records (s.aw.takeFrame s.sess.info f s.ft.newest).2
  exact (harchived.setSw (takeStreams_streams_length _ _ _ _ _ _)).fileAll _

theorem State.Safe.closeFrame {s : State} (h : s.Safe) (f : Frame) (cause : Cause) (empty : Bool) :
    (s.closeFrame f cause empty).Safe := by
  have hnumber : (s.closeNumber f.number).Safe := (h.setFt _).setSess (List.length_map _)
  have hbuffers : ((s.closeNumber f.number).abandonBuffers f.number).Safe :=
    (hnumber.setSess (by simp [countAbandoned_eq])).setBuffers
      ((List.length_filter_le _ _).trans hnumber.tables.buffers)
  exact ((hbuffers.evaluateClose f).produce _).setFt _

theorem State.Safe.closeOne {s : State} (h : s.Safe) (g : Nat) (cause : Cause) : (s.closeOne g cause).Safe := by
  unfold State.closeOne
  split
  · exact h.closeFrame _ _ _
  · exact h.closeFrame _ _ _

theorem State.Safe.closeRun (cause : Cause) (count g : Nat) {s : State} (h : s.Safe) :
    (State.closeRun cause count g s).Safe := by
  induction count generalizing g s with
  | zero => exact h
  | succ count ih => exact ih (g + 1) (h.closeOne g cause)

theorem State.Safe.closeBelow {s : State} (h : s.Safe) (limit : Nat) (cause : Cause) :
    (s.closeBelow limit cause).Safe := h.closeRun cause _ _

theorem State.Safe.closeComplete (fuel : Nat) {s : State} (h : s.Safe) : (State.closeComplete fuel s).Safe := by
  induction fuel generalizing s with
  | zero => exact h
  | succ fuel ih =>
    rw [State.closeComplete]
    split
    · exact ih (h.closeFrame _ _ _)
    · exact h

theorem State.Safe.closeDue {s : State} (h : s.Safe) : s.closeDue.Safe := h.closeComplete _

theorem State.Safe.closeAll {s : State} (h : s.Safe) (cause : Cause) : (s.closeAll cause).Safe := by
  unfold State.closeAll
  split
  · exact h.closeBelow _ _
  · exact h

/-! ### Opening (R8, R41, R42) -/

theorem State.Safe.openFrame {s : State} (h : s.Safe) (g : Nat) : (s.openFrame g).Safe :=
  (((h.closeBelow _ _).closeDue.setFt _).setBuses (List.length_map _)).setSess (List.length_map _)

theorem State.Safe.openFor {s : State} (h : s.Safe) (g : Nat) : (s.openFor g).Safe := by
  unfold State.openFor
  split
  · exact ((h.openFrame g).setSess (by rfl)).file _
  · exact h.openFrame g

/-! ### Capture writes (R15 to R20, R28 to R31) -/

@[simp] theorem SessionControl.modifyWindow_length (c : SessionControl) (w : Nat) (f : Window → Window) :
    (c.modifyWindow w f).windows.length = c.windows.length := List.length_modify _ _ _

theorem State.Safe.countWindow {s : State} (h : s.Safe) (w : Nat) (f : WindowCounters → WindowCounters) :
    (s.countWindow w f).Safe := h.setSess (SessionControl.modifyWindow_length _ _ _)

theorem State.Safe.strayWrite {s : State} (h : s.Safe) (w slot : Nat) : (s.strayWrite w slot).Safe :=
  State.safe_ite (((h.countWindow w _).setSess (SessionControl.modifyWindow_length _ _ _)).file _) (h.countWindow w _)

theorem State.Safe.lateWrite {s : State} (h : s.Safe) (w slot g : Nat) : (s.lateWrite w slot g).Safe :=
  State.safe_ite (((h.countWindow w _).setSess (SessionControl.modifyWindow_length _ _ _)).file _) (h.countWindow w _)

theorem State.Safe.codeWinner {s : State} (h : s.Safe) (g t : Nat) (samples : List Int) (crc : BitVec 32) :
    (s.codeWinner g t samples crc).Safe :=
  State.safe_ite (State.safe_ite (h.setAw (h.archive.of_eq (by rfl) (by rfl))) ((h.setAw (h.archive.of_eq (by rfl) (by rfl))).setFt _)) h

theorem State.Safe.winBlock {s : State} (h : s.Safe) (g t : Nat) (role : Role) (samples : List Int) :
    (s.winBlock g t role samples).Safe :=
  ((((h.setFt _).codeWinner g t samples _).setTracks (List.length_modify _ _ _)).fileAll _).closeDue

theorem State.Safe.secondCopy {s : State} (h : s.Safe) (g t : Nat) (stored : BitVec 32) (samples : List Int) :
    (s.secondCopy g t stored samples).Safe := by
  have hcompared := h.setTracks (x := s.tracks.modify t fun x => x.compare (blockCrc samples == stored))
    (List.length_modify _ _ _)
  exact State.safe_ite (State.safe_ite hcompared ((hcompared.setFt _).file _)) h

theorem State.Safe.selectBlock {s : State} (h : s.Safe) (src : Source) (g : Nat) (samples : List Int) :
    (s.selectBlock src g samples).Safe := by
  unfold State.selectBlock
  split
  · exact h
  · split
    · exact h.secondCopy _ _ _ _
    · exact h.winBlock _ _ _ _

/-- R18: a buffer that is in use is written back, and a new one is taken where the pool has one. -/
theorem State.Safe.keepBuffer {s : State} (h : s.Safe) (format : Format) {b : Buffer}
    (hroom : (s.buffers.any fun x => x.isKeyed ⟨b.window, b.lane⟩ b.frame) = true ∨ s.buffers.length < poolSize) :
    (s.keepBuffer format b).Safe := by
  unfold State.keepBuffer
  split
  · exact (((h.setFt _).countWindow _ _).setBuffers
      ((List.length_filter_le _ _).trans h.tables.buffers)).selectBlock _ _ _
  · refine h.setBuffers ?_
    split
    · exact (List.length_map _).le.trans h.tables.buffers
    · next hnew =>
      have hfree := hroom.resolve_left hnew
      rw [List.length_append, List.length_singleton]
      exact hfree

theorem Buffer.isKeyed_of_find {buffers : List Buffer} {src : Source} {g : Nat} {b : Buffer}
    (h : (buffers.find? fun x => x.isKeyed src g) = some b) :
    (buffers.any fun x => x.isKeyed ⟨b.window, b.lane⟩ b.frame) = true :=
  List.any_eq_true.mpr ⟨b, List.mem_of_find?_eq_some h, by simp [Buffer.isKeyed]⟩

theorem State.Safe.assemble {s : State} (h : s.Safe) (format : Format) (src : Source) (g line : Nat) (d : WriteData) :
    (s.assemble format src g line d).Safe := by
  unfold State.assemble
  split
  · exact h
  · split
    · exact h.countWindow _ _
    · split
      · exact h
      · split
        · next b hfind =>
          have hkeyed := Buffer.isKeyed_of_find hfind
          exact h.keepBuffer format (.inl hkeyed)
        · split
          · next hroom => exact h.keepBuffer format (.inr hroom)
          · have hcounted := (h.setFt (s.ft.modify g fun f =>
              { f with failed := f.failed ++ [src], exhausted := true })).countWindow src.window
              fun c => { c with exhausted := satInc c.exhausted }
            exact State.safe_ite (hcounted.file _) hcounted

theorem State.Safe.captureMapped {s : State} (h : s.Safe) (w : Nat) (r : WindowRecord) (p : WindowPlace) (g : Nat)
    (d : WriteData) : (s.captureMapped w r p g d).Safe := by
  unfold State.captureMapped
  split
  · exact h.lateWrite _ _ _
  · exact (State.safe_ite h (h.openFor g)).assemble _ _ _ _ _

theorem State.Safe.captureWrite {s : State} (h : s.Safe) (w : Nat) (r : WindowRecord) (p : WindowPlace)
    (d : WriteData) : (s.captureWrite w r p d).Safe := by
  unfold State.captureWrite
  dsimp only
  split
  · exact h.strayWrite _ _
  · exact (h.setSess (SessionControl.modifyWindow_length _ _ _)).captureMapped _ _ _ _ _

theorem State.Safe.resumeSession {s : State} (h : s.Safe) (w slots slot : Nat) : (s.resumeSession w slots slot).Safe := by
  refine State.Safe.file (State.Safe.setFt (h.setSess ?_) _) _
  simp [SessionControl.anchor]

theorem State.Safe.windowWrite {s : State} (h : s.Safe) (w : Nat) (r : WindowRecord) (p : WindowPlace)
    (d : WriteData) : (s.windowWrite w r p d).Safe := by
  unfold State.windowWrite
  dsimp only
  split
  case h_1 => exact h
  case h_2 => exact h.countWindow _ _
  case h_3 => exact State.safe_ite (h.captureWrite _ _ _ _) h
  case h_4 =>
    have hrestarted := h.setSess (c := { s.sess with timer := some s.sess.stallTime }) rfl
    have hanchored := hrestarted.setSess (SessionControl.modifyWindow_length _ w fun x =>
      { x with
        anchor := (((s.sess.resume.getD 0 : Nat) - p.slot : Int) % r.slots).toNat
        reference := some (s.sess.resume.getD 0), anchored := true })
    exact State.safe_ite (State.safe_ite (hrestarted.captureWrite _ _ _ _) hrestarted)
      (State.safe_ite (hanchored.captureMapped _ _ _ _ _) hanchored)
  case h_5 =>
    have hresumed := h.resumeSession w r.slots p.slot
    exact State.safe_ite (State.safe_ite (h.strayWrite _ _) h)
      (State.safe_ite (hresumed.captureMapped _ _ _ _ _) hresumed)

/-- R143, R144: the mirror copy and its records come before or after the session's part. -/
theorem State.Safe.windowOwner {s : State} (h : s.Safe) (addr : Nat) (d : WriteData) (w : Nat) :
    (s.windowOwner addr d w).Safe := by
  unfold State.windowOwner
  split
  · exact h
  · next r _ =>
    have hsession : ∀ x : State, x.Safe →
        (if d.mask = 0 then x else x.windowWrite w r (r.place x.sess.blockSize addr) d).Safe :=
      fun x hx => State.safe_ite hx (hx.windowWrite _ _ _ _)
    have hmirrored := h.setPath (h.path_safe.mirror w r addr d s.ft.newest)
    dsimp only
    split
    · exact hsession _ hmirrored
    · exact State.safe_ite (hsession _ ((hmirrored.setFreeCount _).fileAll _))
        ((hsession _ (hmirrored.setFreeCount _)).fileAll _)

end Sys2Proof.Machine
end

section
/-! Every command function, event and row keeps a state safe, and so does every step. -/

namespace Sys2Proof.Machine

/-! ### The command functions (Sections 1 to 10) -/

/-- What a function's owner leaves is safe where it found the state safe. -/
def OwnerKeepsSafe (run : State → State × Reply) : Prop := ∀ s : State, s.Safe → (run s).1.Safe

/-- A function that checks and then acts on the state it found. -/
theorem OwnerKeepsSafe.of_checked {checks : State → List (Bool × Reason)} {act : State → State × Reply}
    (h : OwnerKeepsSafe act) : OwnerKeepsSafe fun s => s.checked (checks s) (act s) :=
  fun s hs => State.checked_fst hs fun _ => h s hs

theorem loadWindows_keepsSafe (body : List Byte) : OwnerKeepsSafe fun s => s.loadWindows body :=
  .of_checked fun _ h => h.setSess (by simp [replaceWindows_eq])

theorem loadTracks_keepsSafe (body : List Byte) : OwnerKeepsSafe fun s => s.loadTracks body :=
  .of_checked fun _ h => h.setTracks (by simp [replaceTracks_eq])

theorem setArchive_keepsSafe (b : ArchiveBody) : OwnerKeepsSafe fun s => s.setArchive b :=
  .of_checked fun s h => h.setAw (s.aw.inArea_configure (areaOf b))

theorem releaseSegment_keepsSafe (n : Nat) : OwnerKeepsSafe fun s => s.releaseSegment n :=
  .of_checked fun _ h => (h.setAw (h.archive.freeAt n).evaluateWarning).fileAll _

theorem setReports_keepsSafe (b : ReportsBody) : OwnerKeepsSafe fun s => s.setReports b :=
  .of_checked fun s h => h.setRw (show (if s.rw.startup then _ else []).length ≤ recordQueueSize by
    split
    · exact Nat.le_of_ble_eq_true rfl
    · exact Nat.zero_le _)

/-- R7: Start, block by block. -/
theorem State.Safe.startSession {s : State} (h : s.Safe) : s.startSession.Safe := by
  have hsession := h.setSess (c := s.sess.startSession) (List.length_map _)
  have hframes := (hsession.setFt (FrameTable.startSession (enabledCount s.tracks))).setBuffers (x := []) (Nat.zero_le _)
  have htables := (hframes.setTracks (x := s.tracks.map Track.startSession) (List.length_map _)).setBuses
    (x := s.buses.map fun b => b.apply.clearMeters) (List.length_map _)
  have hwriters := (htables.setAw (h.archive.of_eq (v := s.aw.startSession) rfl rfl)).setSw (w := s.sw.startSession)
    (by simp [StreamWriter.startSession, startStreams_eq])
  exact (hwriters.setPath h.path_safe.startSession).file _

theorem State.Safe.endSession {s : State} (h : s.Safe) : s.endSession.Safe :=
  State.Safe.setAw (State.Safe.setTracks (h.setSess (by rfl)) (List.length_map _)) (h.archive.of_eq rfl rfl)

theorem State.Safe.beginDraining {s : State} (h : s.Safe) : s.beginDraining.Safe := by
  have hclosed := ((h.setSess (c := { s.sess with state := .draining, timer := none }) rfl).file
    (stateRecord .draining s.sess.state)).closeAll .stop
  exact hclosed.setAw hclosed.archive.stopSession

theorem stop_keepsSafe : OwnerKeepsSafe State.stop := by
  intro s h
  unfold State.stop
  split
  case h_1 => exact h
  case h_2 => exact h.endSession.file _
  case h_3 => exact h.beginDraining
  case h_4 => exact h.beginDraining
  case h_5 => exact h

theorem State.Safe.resetKept {s : State} (h : s.Safe) : s.resetKept.Safe := by
  have hsession := (h.setSess (c := s.sess.afterReset s.sess.record (s.sess.windows.map Window.resetKept))
    (List.length_map _)).setFt s.ft.afterReset
  have htables := (hsession.setBuffers (x := []) (Nat.zero_le _)).setTracks (x := s.tracks.map Track.resetKept) (List.length_map _)
  exact (htables.setSw (w := s.sw.resetKept) (List.length_map _)).setRw (Nat.zero_le recordQueueSize)

theorem State.Safe.resetUnpinned {s : State} (h : s.Safe) : s.resetUnpinned.Safe := by
  have hsession := (h.setSess (c := s.sess.afterReset none (s.sess.windows.map Window.resetUnpinned))
    (List.length_map _)).setFt s.ft.afterReset
  have htables := ((hsession.setBuffers (x := []) (Nat.zero_le _)).setTracks (x := s.tracks.map fun _ => Track.reset)
    (List.length_map _)).setBuses (x := s.buses.map Bus.resetUnpinned) (List.length_map _)
  exact ((htables.setSw (w := s.sw.resetUnpinned) (List.length_map _)).setRw (w := s.rw.resetUnpinned)
    (Nat.zero_le recordQueueSize)).setAw
    s.aw.inArea_resetUnpinned

theorem restart_keepsSafe : OwnerKeepsSafe State.restart := by
  intro s h
  have hreset : (if s.cmd.pin then s.resetKept.setAw (s.aw.resetKept s.path.queues.archive true)
      else s.resetUnpinned).Safe :=
    State.safe_ite (h.resetKept.setAw (h.archive.resetKept _ _)) h.resetUnpinned
  exact (hreset.setPath (h.path_safe.restart _)).setCmd (h.command.of_eq rfl)

theorem setSession_keepsSafe (blockSize lateness rate stall : Nat) :
    OwnerKeepsSafe fun s => s.setSession blockSize lateness rate stall :=
  .of_checked fun _ h => h.setSess (by rfl)

theorem loadReleaseOrder_keepsSafe (tracks : List Byte) : OwnerKeepsSafe fun s => s.loadReleaseOrder tracks :=
  .of_checked fun _ h => h.setAw (h.archive.of_eq (by rfl) (by rfl))

theorem loadBus_keepsSafe (bus : Byte) (entries : List BusEntry) : OwnerKeepsSafe fun s => s.loadBus bus entries :=
  .of_checked fun _ h => h.setBuses (List.length_modify _ _ _)

theorem setBusLevel_keepsSafe (entries : List LevelEntry) : OwnerKeepsSafe fun s => s.setBusLevel entries :=
  .of_checked fun _ h => h.setBuses (by simp [relevelBuses_eq_map])

theorem setBusMute_keepsSafe (selection setting : Byte) : OwnerKeepsSafe fun s => s.setBusMute selection setting :=
  .of_checked fun _ h => h.setBuses (by simp [muteBuses_eq])

theorem setStream_keepsSafe (b : StreamBody) : OwnerKeepsSafe fun s => s.setStream b :=
  .of_checked fun _ h => h.setSw (List.length_modify _ _ _)

theorem setInsertion_keepsSafe (b : InsertionBody) : OwnerKeepsSafe fun s => s.setInsertion b :=
  .of_checked fun _ h => h.setPath
    (h.path_safe.of_requests (by rfl) (by rfl) h.path_safe.queue_le h.path_safe.losses)

theorem start_keepsSafe : OwnerKeepsSafe State.start := .of_checked fun _ h => h.startSession

theorem pinSettings_keepsSafe (setting : Byte) : OwnerKeepsSafe fun s => s.pinSettings setting :=
  .of_checked fun _ h => h.setCmd (h.command.of_eq (by rfl))

theorem getFailReason_keepsSafe : OwnerKeepsSafe State.getFailReason := fun _ h => h.setCmd (h.command.of_eq rfl)

theorem getSession_keepsSafe : OwnerKeepsSafe State.getSession := fun _ h => h

theorem getTracks_keepsSafe (first count : Byte) : OwnerKeepsSafe fun s => s.getTracks first count :=
  .of_checked fun _ h => h

theorem getWindows_keepsSafe : OwnerKeepsSafe State.getWindows := fun _ h => h.setSess (List.length_map _)

theorem getMeters_keepsSafe : OwnerKeepsSafe State.getMeters := fun _ h => h.setBuses (List.length_map _)

theorem getStreams_keepsSafe : OwnerKeepsSafe State.getStreams := fun _ h => h

theorem getArchive_keepsSafe : OwnerKeepsSafe State.getArchive := fun _ h => h

theorem getResetCause_keepsSafe : OwnerKeepsSafe State.getResetCause := fun _ h => h.setCmd (h.command.of_eq rfl)

theorem runFunction_keepsSafe (fn : Function) (body : List Byte) : OwnerKeepsSafe (runFunction fn body) := by
  cases fn with
  | setSession => exact setSession_keepsSafe _ _ _ _
  | loadWindows => exact loadWindows_keepsSafe _
  | loadTracks => exact loadTracks_keepsSafe _
  | loadReleaseOrder => exact loadReleaseOrder_keepsSafe _
  | loadBus => exact loadBus_keepsSafe _ _
  | setBusLevel => exact setBusLevel_keepsSafe _
  | setBusMute => exact setBusMute_keepsSafe _ _
  | setStream => exact setStream_keepsSafe _
  | setArchive => exact setArchive_keepsSafe _
  | releaseSegment => exact releaseSegment_keepsSafe _
  | setReports => exact setReports_keepsSafe _
  | setInsertion => exact setInsertion_keepsSafe _
  | start => exact start_keepsSafe
  | stop => exact stop_keepsSafe
  | pinSettings => exact pinSettings_keepsSafe _
  | restart => exact restart_keepsSafe
  | getFailReason => exact getFailReason_keepsSafe
  | getSession => exact getSession_keepsSafe
  | getTracks => exact getTracks_keepsSafe _ _
  | getWindows => exact getWindows_keepsSafe
  | getMeters => exact getMeters_keepsSafe
  | getStreams => exact getStreams_keepsSafe
  | getArchive => exact getArchive_keepsSafe
  | getResetCause => exact getResetCause_keepsSafe

/-! ### Takes of packets (R150 to R156) -/

theorem CommandUnit.WithinCapacity.settleOutcome {u : CommandUnit} (h : u.WithinCapacity) (flags : BitVec 16)
    (reason : Reason) (body : List Byte) : (u.settleOutcome flags reason body).WithinCapacity :=
  h.of_eq (u.settleOutcome_openSequence flags reason body)

theorem State.Safe.answer {s : State} (h : s.Safe) (reply : Reply) : (s.answer reply).Safe := by
  cases reply with
  | done body => exact h.setCmd (h.command.settleOutcome _ _ _)
  | refused r => exact h.setCmd (CommandUnit.WithinCapacity.settleOutcome (h.command.of_eq (by rfl)) _ _ _)
  | later => exact h

theorem State.Safe.failCheck {s : State} (h : s.Safe) (flag : BitVec 16) : (s.failCheck flag).Safe :=
  h.setCmd (CommandUnit.WithinCapacity.settleOutcome (h.command.of_eq (by rfl)) _ _ _)

theorem State.Safe.endSequence {s : State} (h : s.Safe) : s.endSequence.Safe :=
  h.setCmd (CommandUnit.withinCapacity_of_none rfl)

theorem State.Safe.stagePart {s : State} (h : s.Safe) (fn : Function) (parts : Nat) {staged : List Byte}
    (hstaged : staged.length ≤ stagedLimit) : (s.stagePart fn parts staged).Safe := by
  refine State.Safe.answer (h.setCmd fun q hq => ?_) _
  obtain rfl : (⟨fn, parts, staged⟩ : OpenSequence) = q := Option.some.inj hq
  exact hstaged

theorem State.Safe.enqueueResponse {s : State} (h : s.Safe) (hroom : s.path.hasRoom .response = true) (index : Nat)
    (data : List Byte) (note : Note) : (s.enqueueResponse index data note).Safe :=
  h.setPath (h.path_safe.enqueue hroom _ _ _)

theorem State.Safe.beginTake {s : State} (h : s.Safe) (seq : Byte) (function : BitVec 16) :
    (s.beginTake seq function).Safe := by
  have htaken := h.setCmd (u := { s.cmd with
    lastTaken := seq
    working := some ⟨seq, function, 0, .none, [], false, 0⟩
    coverage := 0
    taken := satInc s.cmd.taken }) (h.command.of_eq rfl)
  unfold State.beginTake State.emitResponse
  split
  · next hroom => exact htaken.enqueueResponse (Bool.and_eq_true_iff.mp hroom).1 _ _ _
  · exact htaken.setCmd (htaken.command.of_eq rfl)

theorem State.Safe.execute {s : State} (h : s.Safe) {run : State → State × Reply} (hrun : OwnerKeepsSafe run) :
    (s.execute run).Safe := (hrun s h).answer _

theorem State.Safe.takeSingle {s : State} (h : s.Safe) {run : State → State × Reply} (hrun : OwnerKeepsSafe run) :
    (s.takeSingle run).Safe := by
  unfold State.takeSingle
  split
  · exact h.execute hrun
  · exact h.endSequence.failCheck _

/-- R155, R156: a part of at most 1008 bytes opens a sequence, and a longer one joins it within 4096 bytes. -/
theorem State.Safe.takePart {s : State} (h : s.Safe) (fn : Function) {owner : Owner}
    (howner : ∀ body, OwnerKeepsSafe (owner body)) (part : Part) {body : List Byte} (hbody : body.length ≤ 1008) :
    (s.takePart fn owner part body).Safe := by
  unfold State.takePart
  split
  case h_1 => exact State.safe_ite (h.execute (howner _)) (h.failCheck _)
  case h_2 => exact h.endSequence.failCheck _
  case h_3 => exact h.stagePart fn 1 (hbody.trans (Nat.le_of_ble_eq_true rfl))
  case h_4 => exact h.endSequence.failCheck _
  case h_5 => exact h.failCheck _
  case h_6 =>
    split
    · exact h.failCheck _
    · split
      · next hfits => exact h.stagePart fn _ hfits
      · exact h.endSequence.failCheck _
  case h_7 => exact h.failCheck _
  case h_8 =>
    exact State.safe_ite (h.failCheck _)
      (State.safe_ite (h.endSequence.execute (howner _)) (h.endSequence.failCheck _))

theorem State.Safe.submit {s : State} (h : s.Safe) (seq : Byte) {take : State → State} (htake : (take s).Safe) :
    (s.submit seq take).Safe := by
  rcases s.submit_cases seq take with ⟨-, heq⟩ | ⟨-, -, -, ⟨-, heq⟩ | ⟨-, heq⟩⟩
  · rwa [heq]
  · rw [heq]
    exact h.setCmd (h.command.of_eq s.cmd.overrun_openSequence)
  · rwa [heq]

/-- Check 5 of R152: the body of an accepted packet has at most 1008 bytes. -/
theorem body_length_le_of_checkPacket {buffer : List Byte} {coverage : BitVec 16} {p : Packet}
    (h : checkPacket buffer coverage = .ok p) : p.body.length ≤ 1008 := by
  unfold checkPacket at h
  dsimp only at h
  split at h
  · cases h
  · split at h
    · cases h
    · split at h
      · cases h
      · split at h
        · cases h
        · split at h
          · cases h
          · split at h
            · cases h
            · next hlength =>
              split at h
              · cases h
              · cases h
                exact (List.length_take_le _ _).trans (Nat.le_of_not_lt fun hlong => hlength (.inl hlong))

theorem State.Safe.takePacket {s : State} (h : s.Safe) {owner : Function → Owner}
    (howner : ∀ fn body, OwnerKeepsSafe (owner fn body)) (seq : Byte) : (s.takePacket owner seq).Safe := by
  unfold State.takePacket
  dsimp only
  split
  · exact (h.beginTake _ _).failCheck _
  · next hok => exact (h.beginTake _ _).takePart _ (howner _) _ (body_length_le_of_checkPacket hok)

@[simp] theorem CommandUnit.copy_openSequence (u : CommandUnit) (line : Nat) (d : WriteData) :
    (u.copy line d).openSequence = u.openSequence := by
  rw [CommandUnit.copy]

theorem State.Safe.commandWrite {s : State} (h : s.Safe) {owner : Function → Owner}
    (howner : ∀ fn body, OwnerKeepsSafe (owner fn body)) (line : Nat) (d : WriteData) :
    (s.commandWrite owner line d).Safe := by
  have hcopied := h.setCmd (u := s.cmd.copy line d) (h.command.of_eq (s.cmd.copy_openSequence line d))
  unfold State.commandWrite
  exact State.safe_ite (hcopied.submit _ (hcopied.takePacket howner _)) hcopied

/-! ### Owed events (assumption 5) -/

theorem State.Safe.endCommand {s : State} (h : s.Safe) : s.endCommand.Safe := by
  unfold State.endCommand
  split
  · exact h
  · exact (h.setCmd (h.command.of_eq (by rfl))).file _

theorem State.Safe.fillSlot {s : State} (h : s.Safe) (k slot g : Nat) : (s.fillSlot k slot g).Safe := by
  unfold State.fillSlot
  split
  · exact State.safe_ite ((h.setSw (List.length_modify _ _ _)).fileAll _) h
  · exact h

theorem State.Safe.takeReport {s : State} (h : s.Safe) (r : Report) : (s.takeReport r).Safe := by
  cases r with
  | commandEnd => exact (h.setReport none).endCommand
  | slotFilled k slot g => exact (h.setReport none).fillSlot k slot g
  | segmentSettled n => exact ((h.setReport none).setAw (h.archive.settle n)).fileAll _

theorem State.Safe.endDraining {s : State} (h : s.Safe) : s.endDraining.Safe :=
  (h.endSession.file _).setCmd ((h.endSession.file _).command.settleOutcome _ _ _)

theorem State.Safe.owed {s : State} (h : s.Safe) : s.owed.Safe := by
  unfold State.owed
  cases s.report with
  | none => exact State.safe_ite h.endDraining h
  | some r => exact State.safe_ite (h.takeReport r).endDraining (h.takeReport r)

theorem State.Safe.ready {s : State} (h : s.Safe) : s.ready.Safe := (h.setPorts _).owed

theorem State.Safe.takeFunction {s : State} (h : s.Safe) (seq : Byte) (fn : Function)
    {run : State → State × Reply} (hrun : OwnerKeepsSafe run) : (s.takeFunction seq fn run).Safe :=
  h.ready.submit seq ((h.ready.beginTake _ _).takeSingle hrun)

theorem State.Safe.takeTable {s : State} (h : s.Safe) (seq : Byte) (fn : Function) (part : Part)
    (body : List Byte) : (s.takeTable seq fn part body).Safe := by
  refine h.ready.submit seq ?_
  dsimp only
  split
  · exact (h.ready.beginTake _ _).failCheck _
  · next hbody =>
    exact (h.ready.beginTake _ _).takePart fn (runFunction_keepsSafe fn) part (Nat.le_of_not_lt hbody)

/-! ### The path, the stall and the resets -/

theorem State.Safe.ownWrite {s : State} (h : s.Safe) (addr : Nat) (d : WriteData) : (s.ownWrite addr d).Safe := by
  have hwindows : ((s.sess.windowsAt addr).foldl (fun x w => x.windowOwner addr d w) s).Safe :=
    List.foldlRecOn _ _ h fun x hx w _ => hx.windowOwner addr d w
  exact State.safe_ite (hwindows.commandWrite runFunction_keepsSafe _ _) hwindows

theorem StreamWriter.foldl_read_length (blockSize addr : Nat) (ks : List Nat) (w : StreamWriter) :
    (ks.foldl (fun x k => x.read blockSize addr k) w).streams.length = w.streams.length :=
  List.foldlRecOn (motive := fun x : StreamWriter => x.streams.length = w.streams.length) ks _ rfl
    fun _ hx _ _ => (List.length_modify _ _ _).trans hx

theorem State.Safe.takeHead {s : State} (h : s.Safe) (r : Passing) : (s.takeHead r).Safe := by
  have hforwarded : (s.forwardHead r).Safe := (h.setPorts _).setPath (h.path_safe.dropHead.recordPassing _ _)
  have howned : ((s.forwardHead r).own r).Safe := by
    unfold State.own
    split
    · exact hforwarded.ownWrite _ _
    · exact hforwarded.setSw (StreamWriter.foldl_read_length _ _ _ _)
  unfold State.takeHead
  split
  · exact hforwarded
  · split
    · exact ((h.setPorts _).setPath (h.path_safe.dropHead.countRefusal _ _)).fileAll _
    · exact howned

theorem State.Safe.reportForwarded {s : State} (h : s.Safe) (note : Note) : (s.reportForwarded note).Safe := by
  cases note with
  | finalHeader => exact (h.setCmd (h.command.of_eq s.cmd.finalForwarded_openSequence)).setReport _
  | streamHeader k slot g => exact h.setReport _
  | directoryRecord n state => exact State.safe_ite (h.setReport _) h
  | frameEnd n g count used => exact h.setAw (h.archive.frameForwarded _ _ _ _)
  | responseLine => exact h
  | record pulse => exact h
  | streamPayload => exact h
  | mirrorCopy => exact h
  | directoryHeader => exact h
  | frameLine => exact h

theorem State.Safe.forwardInserted {s : State} (h : s.Safe) (p : Producer) : (s.forwardInserted p).Safe := by
  unfold State.forwardInserted
  split
  · exact h
  · exact ((h.setPorts _).setPath (h.path_safe.issueInserted p)).reportForwarded _

theorem State.Safe.complete {s : State} (h : s.Safe) (order : Nat) (c : Completion) : (s.complete order c).Safe := by
  have hended := h.path_safe.endOutstanding order
  unfold State.complete
  dsimp only
  split
  · exact h
  · split
    · exact (h.setPorts _).setPath hended
    · split
      · exact (h.setPath (hended.countError _ _)).fileAll _
      · exact h.setPath hended

theorem State.Safe.stall {s : State} (h : s.Safe) : s.stall.Safe := by
  have hclosed := (h.setSess (c := { s.sess with state := .stalled, timer := none }) rfl).closeAll .stall
  exact (hclosed.setSess (List.length_map _)).file _

theorem State.Safe.tick {s : State} (h : s.Safe) : s.tick.Safe := by
  unfold State.tick
  split
  · exact State.safe_ite h.stall (h.setSess rfl)
  · exact h

theorem State.Safe.resetPath {s : State} (h : s.Safe) : s.resetPath.Safe := by
  have hreset := (h.setPath h.path_safe.pathReset).setCmd (u := s.cmd.pathReset)
    (CommandUnit.withinCapacity_of_none rfl)
  unfold State.resetPath
  dsimp only
  split
  · exact hreset
  · have habandoned : ∀ x : State, x.Safe → (x.setPath { x.path with abandonedFirst := true }).Safe := fun x hx =>
      hx.setPath (hx.path_safe.of_requests rfl rfl hx.path_safe.queue_le hx.path_safe.losses)
    exact habandoned _ (hreset.enqueueResponse rfl _ _ _)

theorem State.Safe.pathReset {s : State} (h : s.Safe) : s.pathReset.Safe :=
  State.safe_ite (h.setPath h.path_safe.passOnlyReset) (h.resetKept.setAw (h.archive.resetKept _ _)).resetPath

/-! ### Lines the producers enqueue (R137) -/

theorem State.Safe.enqueueResponseLine {s : State} (h : s.Safe) : s.enqueueResponseLine.Safe := by
  unfold State.enqueueResponseLine
  split
  · split
    · next hroom =>
      exact (h.enqueueResponse hroom _ _ _).setCmd (h.command.of_eq s.cmd.dropHeadLine_openSequence)
    · exact h
  · exact h

theorem State.Safe.writeRecord {s : State} (h : s.Safe) : s.writeRecord.Safe := by
  unfold State.writeRecord
  split
  · split
    · next hroom =>
      refine (h.setPath (h.path_safe.enqueue hroom _ _ _)).setRw (Nat.le_trans ?_ h.records)
      rw [ReportWriter.advance, List.length_tail]
      exact Nat.sub_le _ _
    · exact h
  · exact h

theorem StreamWriter.dropHeadLine_streams (w : StreamWriter) : w.dropHeadLine.streams = w.streams := by
  unfold StreamWriter.dropHeadLine
  split
  · rfl
  · split <;> rfl

theorem State.Safe.enqueueStreamLine {s : State} (h : s.Safe) : s.enqueueStreamLine.Safe := by
  unfold State.enqueueStreamLine
  split
  · split
    · next hroom =>
      exact (h.setPath (h.path_safe.enqueue hroom _ _ _)).setSw (congrArg List.length s.sw.dropHeadLine_streams)
    · exact h
  · exact h

theorem State.Safe.enqueueArchiveLine {s : State} (h : s.Safe) : s.enqueueArchiveLine.Safe := by
  unfold State.enqueueArchiveLine
  split
  · split
    · next hroom => exact (h.setPath (h.path_safe.enqueue hroom _ _ _)).setAw h.archive.dropHeadLine
    · exact h
  · exact h

/-! ### The rows -/

/-- A row answers a safe state where it found the state safe. -/
def RowKeepsSafe (row : State → Host.Outcome State Fault Refusal) : Prop :=
  ∀ s : State, s.Safe → ∃ t, row s = .next t ∧ t.Safe

theorem RowKeepsSafe.of_next {next : State → State} (h : ∀ s : State, s.Safe → (next s).Safe) :
    RowKeepsSafe fun s => .next (next s) := fun s hs => ⟨_, rfl, h s hs⟩

theorem RowKeepsSafe.of_takeFunction (seq : Byte) (fn : Function) {run : State → State × Reply}
    (hrun : OwnerKeepsSafe run) : RowKeepsSafe fun s => .next (s.takeFunction seq fn run) :=
  .of_next fun _ h => h.takeFunction seq fn hrun

theorem RowKeepsSafe.of_takeTable (seq : Byte) (fn : Function) (part : Part) (body : List Byte) :
    RowKeepsSafe fun s => .next (s.takeTable seq fn part body) := .of_next fun _ h => h.takeTable seq fn part body

theorem safe_powerOn (baseSel : BitVec 8) (passOnly : Bool) (pending : List Instr) :
    State.Safe { State.powerOn baseSel passOnly with pending := pending } where
  path := (PathUnit.withinCapacity_iff _).mpr
    ⟨Nat.zero_le _, .inl rfl, PathUnit.queues_of_response_le (Nat.zero_le _)⟩
  archive := ⟨rfl, Nat.zero_le _⟩
  records := Nat.zero_le recordQueueSize
  command := CommandUnit.withinCapacity_of_none rfl
  tables := ⟨List.length_replicate, List.length_replicate, List.length_replicate, List.length_replicate,
    List.length_replicate, Nat.zero_le _⟩

/-- A row that takes its own report where that one waits, and otherwise only quiets the outputs. -/
theorem RowKeepsSafe.of_report {row : State → Host.Outcome State Fault Refusal}
    (h : ∀ s : State, row s = .next (s.setPorts Ports.quiet)
      ∨ ∃ r, row s = .next ((s.setPorts Ports.quiet).takeReport r)) : RowKeepsSafe row := by
  intro s hs
  rcases h s with hrow | ⟨r, hrow⟩
  · exact ⟨_, hrow, hs.setPorts _⟩
  · exact ⟨_, hrow, (hs.setPorts _).takeReport r⟩

theorem execCommandEnd_keepsSafe : RowKeepsSafe execCommandEnd := .of_report fun s => by
  unfold execCommandEnd
  dsimp only
  split
  · exact .inr ⟨_, rfl⟩
  · exact .inl rfl

theorem execSlotFilled_keepsSafe : RowKeepsSafe execSlotFilled := .of_report fun s => by
  unfold execSlotFilled
  dsimp only
  split
  · exact .inr ⟨_, rfl⟩
  · exact .inl rfl

theorem execSegmentSettled_keepsSafe : RowKeepsSafe execSegmentSettled := .of_report fun s => by
  unfold execSegmentSettled
  dsimp only
  split
  · exact .inr ⟨_, rfl⟩
  · exact .inl rfl

theorem execDrainingEnd_keepsSafe : RowKeepsSafe execDrainingEnd := by
  intro s h
  unfold execDrainingEnd
  dsimp only
  split
  · exact ⟨_, rfl, (h.setPorts _).endDraining⟩
  · exact ⟨_, rfl, h.setPorts _⟩

theorem execPassingRequestTake_keepsSafe : RowKeepsSafe execPassingRequestTake := by
  intro s h
  unfold execPassingRequestTake
  dsimp only
  split
  · split
    · exact ⟨_, rfl, h.ready.takeHead _⟩
    · exact ⟨_, rfl, h.ready⟩
  · exact ⟨_, rfl, h.ready⟩

theorem execInsertedLineForward_keepsSafe : RowKeepsSafe execInsertedLineForward := by
  intro s h
  unfold execInsertedLineForward
  dsimp only
  split
  · exact ⟨_, rfl, h.ready.forwardInserted _⟩
  · exact ⟨_, rfl, h.ready⟩
  · exact ⟨_, rfl, h.ready⟩

theorem execStallTimerExpiry_keepsSafe : RowKeepsSafe execStallTimerExpiry := by
  intro s h
  unfold execStallTimerExpiry
  split
  · exact ⟨_, rfl, h.ready.stall⟩
  · exact ⟨_, rfl, h.ready⟩

theorem exec_keepsSafe (i : Instr) : RowKeepsSafe (exec i) := by
  cases i with
  | powerOnReset baseSel passOnly => exact .of_next fun s _ => safe_powerOn baseSel passOnly s.pending
  | pathReset => exact .of_next fun _ h => h.ready.pathReset
  | lineWrite addr data mask tag => exact .of_next fun _ h => h.ready.setPath (h.ready.path_safe.arrive _ _ _)
  | lineRead addr tag => exact .of_next fun _ h => h.ready.setPath (h.ready.path_safe.arrive _ _ _)
  | passingRequestTake => exact execPassingRequestTake_keepsSafe
  | insertedLineForward => exact execInsertedLineForward_keepsSafe
  | writeDone order => exact .of_next fun _ h => h.ready.complete order _
  | writeRefused order => exact .of_next fun _ h => h.ready.complete order _
  | readData order data => exact .of_next fun _ h => h.ready.complete order _
  | readRefused order => exact .of_next fun _ h => h.ready.complete order _
  | stallTimerExpiry => exact execStallTimerExpiry_keepsSafe
  | setSession seq blockSize lateness rate stall => exact .of_takeFunction _ _ (setSession_keepsSafe _ _ _ _)
  | loadWindows seq part body => exact .of_takeTable _ _ _ _
  | loadTracks seq part body => exact .of_takeTable _ _ _ _
  | loadReleaseOrder seq tracks => exact .of_takeFunction _ _ (loadReleaseOrder_keepsSafe _)
  | loadBus seq bus entries => exact .of_takeFunction _ _ (loadBus_keepsSafe _ _)
  | setBusLevel seq entries => exact .of_takeFunction _ _ (setBusLevel_keepsSafe _)
  | setBusMute seq selection setting => exact .of_takeFunction _ _ (setBusMute_keepsSafe _ _)
  | setStream seq body => exact .of_takeFunction _ _ (setStream_keepsSafe _)
  | setArchive seq body => exact .of_takeFunction _ _ (setArchive_keepsSafe _)
  | releaseSegment seq segment => exact .of_takeFunction _ _ (releaseSegment_keepsSafe _)
  | setReports seq body => exact .of_takeFunction _ _ (setReports_keepsSafe _)
  | setInsertion seq body => exact .of_takeFunction _ _ (setInsertion_keepsSafe _)
  | start seq => exact .of_takeFunction _ _ start_keepsSafe
  | stop seq => exact .of_takeFunction _ _ stop_keepsSafe
  | pinSettings seq setting => exact .of_takeFunction _ _ (pinSettings_keepsSafe _)
  | restart seq => exact .of_takeFunction _ _ restart_keepsSafe
  | getFailReason seq => exact .of_takeFunction _ _ getFailReason_keepsSafe
  | getSession seq => exact .of_takeFunction _ _ getSession_keepsSafe
  | getTracks seq first count => exact .of_takeFunction _ _ (getTracks_keepsSafe _ _)
  | getWindows seq => exact .of_takeFunction _ _ getWindows_keepsSafe
  | getMeters seq => exact .of_takeFunction _ _ getMeters_keepsSafe
  | getStreams seq => exact .of_takeFunction _ _ getStreams_keepsSafe
  | getArchive seq => exact .of_takeFunction _ _ getArchive_keepsSafe
  | getResetCause seq => exact .of_takeFunction _ _ getResetCause_keepsSafe
  | drainingEnd => exact execDrainingEnd_keepsSafe
  | commandEnd => exact execCommandEnd_keepsSafe
  | slotFilled => exact execSlotFilled_keepsSafe
  | segmentSettled => exact execSegmentSettled_keepsSafe
  | responseLineEnqueue => exact .of_next fun _ h => h.ready.enqueueResponseLine
  | reportRecordWrite => exact .of_next fun _ h => h.ready.writeRecord
  | streamLineEnqueue => exact .of_next fun _ h => h.ready.enqueueStreamLine
  | archiveLineEnqueue => exact .of_next fun _ h => h.ready.enqueueArchiveLine

theorem State.Safe.withPending {s : State} (h : s.Safe) (pending : List Instr) :
    ({ s with pending := pending } : State).Safe :=
  ⟨h.path, h.archive, h.records, h.command, ⟨h.tables.windows, h.tables.tracks, h.tables.buses, h.tables.streams,
    h.tables.losses, h.tables.buffers⟩⟩

theorem step_keepsSafe : RowKeepsSafe step := by
  intro s h
  unfold step
  split
  · exact ⟨_, rfl, h.ready.tick⟩
  · exact exec_keepsSafe _ _ (h.withPending _)

/-- Settles O58: every row is made of the setters of the blocks, and each block's operations keep its own sizes. -/
theorem everyStepKeepsTheCapacities : Obligations.EveryStepKeepsTheCapacities := by
  unfold Obligations.EveryStepKeepsTheCapacities
  intro s t h hstep
  obtain ⟨t', hnext, ht'⟩ := step_keepsSafe s h
  rw [hstep] at hnext
  cases hnext
  exact ht'

/-! ### The state after power-on reset (R148, R163) -/

/-- Settles O60: every queue, store and table of the reset state has its size, and no frame is held. -/
theorem resetStateMeetsTheInvariants : Obligations.ResetStateMeetsTheInvariants := by
  unfold Obligations.ResetStateMeetsTheInvariants
  intro b strap
  exact ⟨safe_powerOn b strap [], powerOn_frameOrder b strap [], safe_powerOn 0 false [], powerOn_frameOrder 0 false []⟩

end Sys2Proof.Machine
end

section
/-! The rows of the table: a function row is a submission, every row but five acts on what the owed events leave, and
every row and step answers a next state. -/

namespace Sys2Proof.Machine

open Sys2Proof.Spec

/-! ### What a row is -/

/-- A function row submits a packet with its sequence (assumption 10). -/
theorem exec_eq_submit {c : Instr} {seq : Byte} (h : sequenceOf c = some seq) :
    ∃ take, ∀ s, exec c s = .next (s.ready.submit seq take) := by
  cases c
  all_goals first
    | (obtain rfl := Option.some.inj h; exact ⟨_, fun _ => rfl⟩)
    | cases h

/-- The row of a function that is always sent in one part takes its packet. -/
theorem exec_eq_takeFunction {c : Instr} {seq : Byte} {fn : Function} (h : sequenceOf c = some seq)
    (hfn : singleFunction c = some fn) : ∃ run, ∀ s, exec c s = .next (s.takeFunction seq fn run) := by
  cases c
  all_goals first
    | (obtain rfl := Option.some.inj h; obtain rfl := Option.some.inj hfn; exact ⟨_, fun _ => rfl⟩)
    | cases hfn

/-- A row that does not act alone sees the state only once every owed event has been taken. -/
theorem exec_congr_ready {c : Instr} {s t : State} (hc : actsAlone c = false) (h : s.ready = t.ready) :
    exec c s = exec c t := by
  cases hseq : sequenceOf c with
  | some seq =>
    obtain ⟨take, hexec⟩ := exec_eq_submit hseq
    rw [hexec, hexec, h]
  | none =>
    cases c
    all_goals first
      | (cases hc; done)
      | (cases hseq; done)
      | simp only [exec, execPathReset, execLineWrite, execLineRead, execPassingRequestTake, execInsertedLineForward,
          execWriteDone, execWriteRefused, execReadData, execReadRefused, execStallTimerExpiry,
          execResponseLineEnqueue, execReportRecordWrite, execStreamLineEnqueue, execArchiveLineEnqueue, h]

/-- No row faults or is refused. -/
theorem exec_answers (c : Instr) (s : State) : ∃ t, exec c s = .next t := by
  cases hseq : sequenceOf c with
  | some seq =>
    obtain ⟨take, hexec⟩ := exec_eq_submit hseq
    exact ⟨_, hexec s⟩
  | none =>
    cases c
    all_goals first
      | (cases hseq; done)
      | exact ⟨_, rfl⟩
      | (simp only [exec, execPassingRequestTake, execInsertedLineForward, execStallTimerExpiry, execDrainingEnd,
          execCommandEnd, execSlotFilled, execSegmentSettled]
         repeat' split
         all_goals exact ⟨_, rfl⟩)

/-! ### Owed events (assumption 5) -/

@[simp] theorem State.takeReport_setPorts_quiet (s : State) (r : Report) :
    ((s.setPorts Ports.quiet).takeReport r).setPorts Ports.quiet = (s.setPorts Ports.quiet).takeReport r := by
  have hports := State.takeReport_ports (s.setPorts Ports.quiet) r
  rw [State.setPorts_ports] at hports
  exact congrArg (fun p => { (s.setPorts Ports.quiet).takeReport r with ports := p }) hports.symm

theorem State.owed_of_no_report {s : State} (h : s.report = none) :
    s.owed = if s.drainOver then s.endDraining else s := by
  simp only [State.owed, h]

theorem State.owed_of_report {s : State} {r : Report} (h : s.report = some r) :
    s.owed = if (s.takeReport r).drainOver then (s.takeReport r).endDraining else s.takeReport r := by
  simp only [State.owed, h]

/-- A waiting report is taken by its own row as a command would find it taken. -/
theorem exec_rowOfReport {s : State} {r : Report} (h : s.report = some r) :
    exec (rowOfReport r) s = .next ((s.setPorts Ports.quiet).takeReport r) := by
  have hreport : (s.setPorts Ports.quiet).report = some r := h
  cases r with
  | commandEnd => simp only [rowOfReport, exec, execCommandEnd, hreport]
  | slotFilled k slot g => simp only [rowOfReport, exec, execSlotFilled, hreport]
  | segmentSettled n => simp only [rowOfReport, exec, execSegmentSettled, hreport]

theorem exec_drainingEnd (s : State) :
    exec .drainingEnd s
      = .next (if s.drainOver then (s.setPorts Ports.quiet).endDraining else s.setPorts Ports.quiet) := by
  cases hover : s.drainOver <;> simp [exec, execDrainingEnd, hover]

/-- Taking the waiting report first leaves nothing that the next command would not find. -/
theorem State.ready_takeReport {s : State} {r : Report} (h : s.report = some r) :
    ((s.setPorts Ports.quiet).takeReport r).ready = s.ready := by
  rw [State.ready, State.takeReport_setPorts_quiet, State.owed_of_no_report (State.takeReport_report _ _), State.ready,
    State.owed_of_report (s := s.setPorts Ports.quiet) h]

theorem State.ready_endDraining {s : State} (h : s.report = none) (hover : s.drainOver = true) :
    (s.setPorts Ports.quiet).endDraining.ready = s.ready := by
  have hquiet : (s.setPorts Ports.quiet).drainOver = true := hover
  have hreport : (s.setPorts Ports.quiet).endDraining.report = none := h
  rw [State.ready, State.owed_of_no_report (s := (s.setPorts Ports.quiet).endDraining.setPorts Ports.quiet) hreport,
    State.ready, State.owed_of_no_report (s := s.setPorts Ports.quiet) h, if_pos hquiet]
  rfl

/-- Settles O4: the row of an owed event leaves the state that a command finds anyway. -/
theorem owedEventsAreTakenFirst : Obligations.OwedEventsAreTakenFirst := by
  unfold Obligations.OwedEventsAreTakenFirst
  rintro c s t hc (⟨r, hreport, hexec⟩ | ⟨hreport, hover, hexec⟩)
  · rw [exec_rowOfReport hreport] at hexec
    cases hexec
    exact exec_congr_ready hc (State.ready_takeReport hreport).symm
  · rw [exec_drainingEnd, if_pos hover] at hexec
    cases hexec
    exact exec_congr_ready hc (State.ready_endDraining hreport hover).symm

/-- With nothing owed a command finds the state with its outputs quiet. -/
theorem State.ready_of_settled {s : State} (h : Settled s) : s.ready = quiet s := State.ready_of_nothing_owed h.1 h.2

/-! ### Steps (assumption 2) -/

/-- Settles O1: the front command leaves the queue and runs. -/
theorem stepRunsTheFrontCommand : Obligations.StepRunsTheFrontCommand := by
  unfold Obligations.StepRunsTheFrontCommand
  intro s c rest hpending
  simp only [step, hpending]

/-- Settles O3: every row answers, and a step is a row or one microsecond. -/
theorem everyCommandAnswersANextState : Obligations.EveryCommandAnswersANextState := by
  unfold Obligations.EveryCommandAnswersANextState
  intro c s
  refine ⟨exec_answers c s, ?_⟩
  unfold step
  split
  · exact ⟨_, rfl⟩
  · exact exec_answers _ _

theorem step_of_idle {s : State} (hpending : s.pending = []) (h : Settled s) : step s = .next (quiet s).tick := by
  rw [← State.ready_of_settled h]
  simp only [step, hpending]

/-- Settles O2: one microsecond, by the session's state and what is left on the timer. -/
theorem idleStepCountsOneMicrosecond : Obligations.IdleStepCountsOneMicrosecond := by
  unfold Obligations.IdleStepCountsOneMicrosecond
  intro s hpending h
  rw [step_of_idle hpending h]
  refine ⟨fun k hs hk hlong => ?_, fun k hs hk hshort => ?_, fun hnone => ?_⟩
  · simp only [State.tick, hs, hk, if_neg (Nat.not_le_of_lt hlong)]
    rfl
  · have hrunning : (quiet s).sess.state = .running := hs
    simp only [State.tick, hs, hk, if_pos hshort, exec, execStallTimerExpiry, State.ready_of_settled h]
    rfl
  · congr 1
    unfold State.tick
    split
    · next hrunning htimer =>
      rcases hnone with hs | ht
      · exact absurd hrunning hs
      · exact absurd (htimer.symm.trans ht) (Option.some_ne_none _)
    · rfl

/-- Settles O32: the reset state, its straps as read and the queue outside as it stood. -/
theorem powerOnResetRestoresTheResetState : Obligations.PowerOnResetRestoresTheResetState := by
  unfold Obligations.PowerOnResetRestoresTheResetState
  intro s b strap
  exact ⟨rfl, rfl, rfl, rfl, rfl, rfl, rfl, rfl, rfl, rfl, rfl⟩

end Sys2Proof.Machine
end

section
/-! Submission and parts (R146, R150, R154 to R156): a packet that is not submitted, an overrun, a take, and what each
part does with the open sequence. -/

namespace Sys2Proof.Machine

open Sys2Proof.Spec

/-! ### Submission (R150, R154) -/

theorem State.submit_of_not_new {s : State} {seq : Byte}
    (h : s.straps.passOnly = true ∨ seq = 0 ∨ seq = s.cmd.lastTaken) (take : State → State) :
    s.submit seq take = s := by
  rcases s.submit_cases seq take with ⟨-, hsubmit⟩ | ⟨hpass, hzero, hlast, -⟩
  · exact hsubmit
  · rcases h with h | h | h
    · exact absurd (hpass.symm.trans h) Bool.false_ne_true
    · exact absurd h hzero
    · exact absurd h hlast

theorem State.submit_of_working {s : State} {seq : Byte} {w : Working} (hpass : s.straps.passOnly = false)
    (hzero : seq ≠ 0) (hlast : seq ≠ s.cmd.lastTaken) (hw : s.cmd.working = some w) (take : State → State) :
    s.submit seq take = s.setCmd s.cmd.overrun := by
  have hnew : ¬ seq = 0#8 := hzero
  simp [State.submit, hpass, hnew, hlast, hw]

theorem State.submit_of_takes {s : State} {seq : Byte} (h : Takes s seq) (take : State → State) :
    s.submit seq take = take s := by
  obtain ⟨hpass, hworking, hzero, hlast⟩ := h
  have hnew : ¬ seq = 0#8 := hzero
  simp [State.submit, hpass, hworking, hnew, hlast]

/-- Settles O5: no submission, and so no overrun and no take. -/
theorem unsubmittedPacketChangesNothing : Obligations.UnsubmittedPacketChangesNothing := by
  unfold Obligations.UnsubmittedPacketChangesNothing
  intro c s seq hseq hsettled hnew
  obtain ⟨take, hexec⟩ := exec_eq_submit hseq
  rw [hexec, State.ready_of_settled hsettled]
  exact congrArg _ (State.submit_of_not_new (s := quiet s) hnew take)

/-- The OVERRUN flag is bit 8 of the flags (R171). -/
theorem flags_and_overrun_iff (flags : BitVec 16) :
    flags &&& flagOverrun = flagOverrun ↔ flags.getLsbD 8 = true := by
  have htwoPow : flagOverrun = BitVec.twoPow 16 8 := by decide
  rw [htwoPow, BitVec.and_twoPow]
  cases flags.getLsbD 8
  · simp only [Bool.false_eq_true, if_false, iff_false]
    decide
  · simp

theorem flags_or_overrun {flags : BitVec 16} (h : flags.getLsbD 8 = true) : flags ||| flagOverrun = flags := by
  have hand := (flags_and_overrun_iff flags).mpr h
  calc flags ||| flagOverrun = flags ||| (flags &&& flagOverrun) := by rw [hand]
    _ = flags := by
      refine BitVec.eq_of_getLsbD_eq fun i _ => ?_
      rw [BitVec.getLsbD_or, BitVec.getLsbD_and]
      cases flags.getLsbD i <;> rfl

/-- R154, in the manual's terms. -/
theorem CommandUnit.overrun_of_working {u : CommandUnit} {w : Working} (h : u.working = some w) :
    u.overrun =
      { u with
        overruns := satInc u.overruns
        working := some
          { w with
            flags := w.flags ||| 0x0100
            finals := if w.flags.getLsbD 8 = false ∧ w.finalEnqueued = true then w.finals + 1 else w.finals }
        out := if w.flags.getLsbD 8 = false ∧ w.finalEnqueued = true then u.out ++ [.finalHeader] else u.out } := by
  have hflag : (0x0100 : BitVec 16) = flagOverrun := rfl
  simp only [CommandUnit.overrun, h, flags_and_overrun_iff, hflag]
  cases hbit : w.flags.getLsbD 8 with
  | true =>
    simp only [flags_or_overrun hbit, reduceCtorEq, false_and, if_false, if_true]
  | false => cases w.finalEnqueued <;> simp

/-- Settles O6: the submission finds the unit WORKING, and only counts. -/
theorem submissionWhileWorkingIsAnOverrun : Obligations.SubmissionWhileWorkingIsAnOverrun := by
  unfold Obligations.SubmissionWhileWorkingIsAnOverrun
  intro c s seq w hseq hsettled hpass hw hzero hlast
  obtain ⟨take, hexec⟩ := exec_eq_submit hseq
  rw [hexec, State.ready_of_settled hsettled, State.submit_of_working (s := quiet s) hpass hzero hlast hw,
    CommandUnit.overrun_of_working (u := (quiet s).cmd) hw]
  rfl

/-! ### What the take leaves (R151) -/

/-- A state but for the Command Unit's open sequence. -/
def State.withSequence (s : State) (q : Option OpenSequence) : State :=
  { s with cmd := { s.cmd with openSequence := q } }

theorem takenWith_working (s : State) (seq : Byte) (field : BitVec 16) :
    (takenWith s seq field).cmd.working ≠ none := by
  unfold takenWith
  split <;> exact Option.some_ne_none _

@[simp] theorem takenWith_openSequence (s : State) (seq : Byte) (field : BitVec 16) :
    (takenWith s seq field).cmd.openSequence = s.cmd.openSequence := by
  unfold takenWith
  split <;> rfl

@[simp] theorem taken_openSequence (s : State) (seq : Byte) (fn : Function) :
    (taken s seq fn).cmd.openSequence = s.cmd.openSequence := takenWith_openSequence _ _ _

/-- The take does not look at the open sequence. -/
theorem takenWith_withSequence (s : State) (seq : Byte) (field : BitVec 16) (q : Option OpenSequence) :
    takenWith (s.withSequence q) seq field = (takenWith s seq field).withSequence q := by
  unfold takenWith
  split
  · next h => rw [if_pos (show s.path.queues.response.length < 16 ∧ s.cmd.out = [] from h)]; rfl
  · next h => rw [if_neg (show ¬ (s.path.queues.response.length < 16 ∧ s.cmd.out = []) from h)]; rfl

/-- The row of a function taken in READY does what its part does on what the take leaves. -/
theorem State.takeFunction_of_takes {s : State} {seq : Byte} (hsettled : Settled s) (h : Takes s seq) (fn : Function)
    (run : State → State × Reply) : s.takeFunction seq fn run = (taken s seq fn).takeSingle run := by
  rw [State.takeFunction, State.ready_of_settled hsettled, State.submit_of_takes (s := quiet s) h, taken,
    ← State.beginTake_quiet]
  rfl

theorem State.takeTable_of_takes {s : State} {seq : Byte} (hsettled : Settled s) (h : Takes s seq) (fn : Function)
    (part : Part) (body : List Byte) :
    s.takeTable seq fn part body
      = if 1008 < body.length then (taken s seq fn).failCheck flagShortBody
        else (taken s seq fn).takePart fn (runFunction fn) part body := by
  rw [State.takeTable, State.ready_of_settled hsettled, State.submit_of_takes (s := quiet s) h, taken,
    ← State.beginTake_quiet]
  rfl

/-! ### Outcomes on a WORKING unit (R152, R153) -/

theorem State.failCheck_of_working {s : State} (h : s.cmd.working ≠ none) (flag : BitVec 16) :
    s.failCheck flag = failed s flag := by
  obtain ⟨w, hw⟩ := Option.ne_none_iff_exists'.mp h
  simp [State.failCheck, failed, settled, CommandUnit.settleOutcome, hw, State.setCmd]

theorem State.stagePart_of_working {s : State} (h : s.cmd.working ≠ none) (fn : Function) (parts : Nat)
    (staged : List Byte) : s.stagePart fn parts staged = done (s.withSequence (some ⟨fn, parts, staged⟩)) [] :=
  State.answer_done (s := s.withSequence (some ⟨fn, parts, staged⟩)) h []

/-- Settles O7: check 7 fails before the function is reached. -/
theorem singlePartPacketBreaksAnOpenSequence : Obligations.SinglePartPacketBreaksAnOpenSequence := by
  unfold Obligations.SinglePartPacketBreaksAnOpenSequence
  intro c s seq fn q hseq hfn hsettled htakes hopen
  obtain ⟨run, hexec⟩ := exec_eq_takeFunction hseq hfn
  rw [hexec, State.takeFunction_of_takes hsettled htakes, State.takeSingle, taken_openSequence, hopen]
  exact congrArg _ (State.failCheck_of_working (s := (taken s seq fn).endSequence) (taken_working s seq fn) _)

/-! ### Parts of a table (R155, R156) -/

section parts

variable {s : State} {fn : Function} {owner : Owner} {body : List Byte}

theorem State.takePart_only_closed (h : s.cmd.openSequence = none) (hfits : lengthFits fn body = false) :
    s.takePart fn owner .only body = s.failCheck flagLength := by
  simp [State.takePart, h, hfits]

theorem State.takePart_only_fits (h : s.cmd.openSequence = none) (hfits : lengthFits fn body = true) :
    s.takePart fn owner .only body = s.execute (owner body) := by
  simp [State.takePart, h, hfits]

theorem State.takePart_first_closed (h : s.cmd.openSequence = none) :
    s.takePart fn owner .first body = s.stagePart fn 1 body := by
  simp only [State.takePart, h]

theorem State.takePart_later_closed {p : Part} (h : s.cmd.openSequence = none) (hp : p = .middle ∨ p = .last) :
    s.takePart fn owner p body = s.failCheck flagBadPart := by
  rcases hp with rfl | rfl <;> simp only [State.takePart, h]

theorem State.takePart_early_open {p : Part} {q : OpenSequence} (h : s.cmd.openSequence = some q)
    (hp : p = .only ∨ p = .first) :
    s.takePart fn owner p body = s.endSequence.failCheck flagBrokenSequence := by
  rcases hp with rfl | rfl <;> simp only [State.takePart, h]

theorem State.takePart_later_other {p : Part} {q : OpenSequence} (h : s.cmd.openSequence = some q)
    (hq : q.function ≠ fn) (hp : p = .middle ∨ p = .last) :
    s.takePart fn owner p body = s.failCheck flagBadPart := by
  rcases hp with rfl | rfl <;> simp only [State.takePart, h, if_pos hq]

theorem State.takePart_middle_same {q : OpenSequence} (h : s.cmd.openSequence = some q) (hq : q.function = fn) :
    s.takePart fn owner .middle body
      = if (q.staged ++ body).length ≤ stagedLimit then s.stagePart fn (satInc q.parts) (q.staged ++ body)
        else s.endSequence.failCheck flagLength := by
  simp only [State.takePart, h, hq, ne_eq, not_true_eq_false, if_false]

theorem State.takePart_last_same {q : OpenSequence} (h : s.cmd.openSequence = some q) (hq : q.function = fn) :
    s.takePart fn owner .last body
      = if (q.staged ++ body).length ≤ stagedLimit ∧ lengthFits fn (q.staged ++ body) = true then
          s.endSequence.execute (owner (q.staged ++ body))
        else s.endSequence.failCheck flagLength := by
  simp only [State.takePart, h, hq, ne_eq, not_true_eq_false, if_false, Bool.and_eq_true, decide_eq_true_iff]

end parts

theorem fieldAt_one (body : List Byte) (k : Nat) : fieldAt body k 1 = (body.getD k 0).toNat := by
  induction k generalizing body with
  | zero => cases body <;> rfl
  | succ k ih =>
    cases body with
    | nil => simp [fieldAt, leValue]
    | cons b bs => exact ih bs

/-- Check 8 for the body of a table: the length its count gives (R172). -/
theorem lengthFits_table_iff {fn : Function} (h : fn = .loadWindows ∨ fn = .loadTracks) (body : List Byte) :
    lengthFits fn body = true
      ↔ body ≠ [] ∧ body.length = 4 + (if fn = .loadWindows then 24 else 12) * (body.getD 0 0).toNat := by
  cases body with
  | nil => rcases h with rfl | rfl <;> simp [lengthFits, bodyLength, countedLength]
  | cons b bs =>
    have hpos : 0 < (b :: bs).length := Nat.succ_pos _
    rcases h with rfl | rfl <;>
      simp only [lengthFits, bodyLength, countedLength, if_pos hpos, beq_iff_eq, Option.some.injEq, fieldAt_one, ne_eq,
        reduceCtorEq, not_false_eq_true, true_and, if_true, if_false] <;> exact eq_comm

/-- The two rows of functions that may be sent in parts. -/
theorem exec_table {s : State} {seq : Byte} {fn : Function} {body : List Byte} {row : Part → Instr}
    (hrow : (fn = .loadWindows ∧ row = fun p => .loadWindows seq p body)
      ∨ (fn = .loadTracks ∧ row = fun p => .loadTracks seq p body)) (p : Part) :
    exec (row p) s = .next (s.takeTable seq fn p body) := by
  rcases hrow with ⟨rfl, rfl⟩ | ⟨rfl, rfl⟩ <;> rfl

/-- Settles O8: the table of R155, part by part, on what the take leaves. -/
theorem tablePartsAreStagedInOrder : Obligations.TablePartsAreStagedInOrder := by
  unfold Obligations.TablePartsAreStagedInOrder
  intro s seq body fn other parts staged row hrow hsettled htakes u size opened
  have hfn : fn = .loadWindows ∨ fn = .loadTracks := hrow.imp And.left And.left
  have hworking : u.cmd.working ≠ none := taken_working s seq fn
  have hfailed : ∀ flag, u.failCheck flag = failed u flag := State.failCheck_of_working hworking
  have hbroken : ∀ flag, u.endSequence.failCheck flag = failed (opened u none) flag :=
    State.failCheck_of_working (s := u.endSequence) hworking
  have hstaged : ∀ n bytes, u.stagePart fn n bytes = done (opened u (some ⟨fn, n, bytes⟩)) [] :=
    State.stagePart_of_working hworking fn
  have hexec : ∀ p, exec (row p) s
      = .next (if 1008 < body.length then u.failCheck flagShortBody else u.takePart fn (runFunction fn) p body) :=
    fun p => by rw [exec_table hrow, State.takeTable_of_takes hsettled htakes]
  refine ⟨fun hlong p => ?_, fun hshort hopen => ?_, fun hshort hopen => ?_⟩
  · rw [hexec, if_pos hlong, hfailed]
    rfl
  · have hu : u.cmd.openSequence = none := (taken_openSequence s seq fn).trans hopen
    simp only [hexec, if_neg (Nat.not_lt.mpr hshort)]
    refine ⟨fun hlength => ?_, ?_, ?_, ?_⟩
    · have hfits : lengthFits fn body = false := by
        rw [← Bool.not_eq_true, lengthFits_table_iff hfn, not_and_or, not_not]
        exact hlength
      rw [State.takePart_only_closed hu hfits, hfailed]
      rfl
    · rw [State.takePart_first_closed hu, hstaged]
    · rw [State.takePart_later_closed hu (.inl rfl), hfailed]
      rfl
    · rw [State.takePart_later_closed hu (.inr rfl), hfailed]
      rfl
  · have hu : u.cmd.openSequence = some ⟨other, parts, staged⟩ := (taken_openSequence s seq fn).trans hopen
    simp only [hexec, if_neg (Nat.not_lt.mpr hshort)]
    refine ⟨?_, ?_, fun hother => ⟨?_, ?_⟩, fun hsame => ?_⟩
    · rw [State.takePart_early_open hu (.inl rfl), hbroken]
      rfl
    · rw [State.takePart_early_open hu (.inr rfl), hbroken]
      rfl
    · rw [State.takePart_later_other hu hother (.inl rfl), hfailed]
      rfl
    · rw [State.takePart_later_other hu hother (.inr rfl), hfailed]
      rfl
    · rw [State.takePart_middle_same hu hsame, hstaged, hbroken, List.length_append]
      rfl

/-- Settles O9: check 8 on the assembled table, which then runs as an ONLY packet's body would. -/
theorem lastPartRunsTheAssembledTable : Obligations.LastPartRunsTheAssembledTable := by
  unfold Obligations.LastPartRunsTheAssembledTable
  intro s seq body fn parts staged row hrow hsettled htakes hshort hopen table size closed
  have hfn : fn = .loadWindows ∨ fn = .loadTracks := hrow.imp And.left And.left
  have hclosed : (taken s seq fn).endSequence = taken closed seq fn :=
    (takenWith_withSequence s seq _ none).symm
  have hexec : ∀ (t : State) (p : Part) (b : List Byte), exec (row p b) t = .next (t.takeTable seq fn p b) := by
    rcases hrow with ⟨rfl, rfl⟩ | ⟨rfl, rfl⟩ <;> exact fun _ _ _ => rfl
  have hlast : exec (row .last body) s
      = .next (if table.length ≤ stagedLimit ∧ lengthFits fn table = true then
          (taken closed seq fn).execute (runFunction fn table)
        else failed (taken closed seq fn) flagLength) := by
    rw [hexec, State.takeTable_of_takes hsettled htakes, if_neg (Nat.not_lt.mpr hshort),
      State.takePart_last_same ((taken_openSequence s seq fn).trans hopen) rfl, hclosed,
      State.failCheck_of_working (taken_working closed seq fn)]
  have hiff : table.length ≤ stagedLimit ∧ lengthFits fn table = true
      ↔ table.length ≤ 4096 ∧ table ≠ [] ∧ table.length = 4 + size * (table.getD 0 0).toNat := by
    rw [lengthFits_table_iff hfn]
    rfl
  rw [hlast]
  split
  · next hfits =>
    rw [if_pos (hiff.mpr hfits)]
    refine ⟨fun honly => ?_, rfl⟩
    rw [hexec, State.takeTable_of_takes (s := closed) hsettled htakes, if_neg (Nat.not_lt.mpr honly),
      State.takePart_only_fits (taken_openSequence closed seq fn) (hiff.mpr hfits).2]
  · next hfails =>
    rw [if_neg (mt hiff.mp hfails)]
    rfl

end Sys2Proof.Machine
end

section
/-! The bytes of packets and responses (R152, R153, R171, R172): the lines of a response joined together, and the checks
of a packet's header. -/

namespace Sys2Proof.Machine

open Sys2Proof.Spec

/-! ### Whole lines -/

theorem padTo_of_length_le {n : Nat} {bytes : List Byte} (h : bytes.length ≤ n) :
    padTo n bytes = bytes ++ List.replicate (n - bytes.length) 0 := by
  rw [padTo, List.take_of_length_le h]

theorem padTo_take_self {n k : Nat} (bytes : List Byte) (h : n ≤ k) : padTo n (bytes.take k) = padTo n bytes := by
  rw [padTo, padTo, List.take_take, Nat.min_eq_left h, List.length_take]
  congr 2
  omega

/-- One line more continues a padded object where it stands. -/
theorem padTo_add (m n : Nat) (bytes : List Byte) : padTo (m + n) bytes = padTo m bytes ++ padTo n (bytes.drop m) := by
  rcases Nat.le_total bytes.length m with hshort | hlong
  · rw [padTo_of_length_le hshort, padTo_of_length_le (Nat.le_add_right_of_le hshort), List.drop_of_length_le hshort,
      padTo, List.take_nil, List.nil_append, List.append_assoc, List.length_nil, List.replicate_append_replicate]
    congr 2
    omega
  · rw [padTo, padTo, padTo, Nat.sub_eq_zero_of_le hlong, List.replicate_zero, List.append_nil, List.take_add,
      List.length_drop, List.append_assoc]
    congr 3
    omega

/-- The lines of an object, joined, are the object with zeros behind it. -/
theorem flatMap_lineAt (bytes : List Byte) (m : Nat) :
    ((List.range m).flatMap fun j => lineAt bytes (64 * j)) = padTo (64 * m) bytes := by
  induction m with
  | zero => simp [padTo]
  | succ m ih => rw [List.range_succ, List.flatMap_append, ih, Nat.mul_succ, padTo_add, List.flatMap_singleton]; rfl

theorem take_padTo {n : Nat} {bytes : List Byte} (h : bytes.length ≤ n) : (padTo n bytes).take bytes.length = bytes := by
  rw [padTo_of_length_le h, List.take_left']
  rfl

/-- R170: the sum of an object's bytes. -/
theorem bodySum_eq (bytes : List Byte) : bodySum bytes = (bytes.map BitVec.toNat).sum % 65536 := by
  have hfold : ∀ n, bytes.foldl (fun n b => n + b.toNat) n = n + (bytes.map BitVec.toNat).sum := by
    induction bytes with
    | nil => exact fun n => rfl
    | cons b bs ih => exact fun n => by rw [List.foldl_cons, ih, List.map_cons, List.sum_cons, Nat.add_assoc]
  rw [bodySum, hfold, Nat.zero_add]

/-! ### Responses (R153, R171) -/

@[simp] theorem bodyLines_length (body : List Byte) : (bodyLines body).length = (15 + body.length) / 64 := by
  simp [bodyLines]

/-- The 16 header bytes of a final header line. -/
def Working.headerBytes (w : Working) : List Byte :=
  [w.seq, 2] ++ leBytes 2 w.function.toNat ++ leBytes 2 w.flags.toNat ++ leBytes 2 w.body.length
    ++ leBytes 2 ((w.body.map BitVec.toNat).sum % 65536) ++ List.replicate 6 0

theorem Working.headerBytes_length (w : Working) : w.headerBytes.length = 16 := by
  simp [Working.headerBytes]

/-- The final header line is the first line of the header and the body together. -/
theorem Working.finalHeader_eq (w : Working) : w.finalHeader = lineAt (w.headerBytes ++ w.body) 0 := by
  have htake : w.headerBytes ++ w.body.take 48 = (w.headerBytes ++ w.body).take 64 := by
    rw [List.take_append, List.take_of_length_le (l := w.headerBytes) (by rw [w.headerBytes_length]; omega),
      w.headerBytes_length]
  rw [lineAt, List.drop_zero, ← padTo_take_self _ (Nat.le_refl lineSize), Working.finalHeader, responseHeader, bodySum_eq]
  exact congrArg (padTo lineSize) htake

/-- A body line is the same whatever 16 bytes stand before the body. -/
theorem lineAt_append_of_sixteen {header : List Byte} (h : header.length = 16) (body : List Byte) (j : Nat) :
    lineAt (List.replicate 16 0 ++ body) (64 * (j + 1)) = lineAt (header ++ body) (64 * (j + 1)) := by
  have hdrop : ∀ l : List Byte, l.length = 16 → (l ++ body).drop (64 * (j + 1)) = body.drop (64 * (j + 1) - 16) := by
    intro l hl
    rw [List.drop_append, List.drop_of_length_le (by omega), List.nil_append, hl]
  rw [lineAt, lineAt, hdrop _ (List.length_replicate ..), hdrop _ h]

/-- Settles O13: the lines are those of the header and the body, joined. -/
theorem responseLinesCarryHeaderAndBody : Obligations.ResponseLinesCarryHeaderAndBody := by
  unfold Obligations.ResponseLinesCarryHeaderAndBody
  intro w _ lines
  have hbytes : (w.headerBytes ++ w.body).length = 16 + w.body.length := by
    rw [List.length_append, w.headerBytes_length]
  refine ⟨fun j h => ⟨lineAt (List.replicate 16 0 ++ w.body) (64 * (j + 1)), ?_, lineAt_length _ _⟩,
    bodyLines_length _, padTo_length _ _, ?_⟩
  · simp [lines, bodyLines]
  · have hjoined : w.finalHeader ++ (lines.flatMap fun o => match o with
          | .line _ data => data
          | .finalHeader => [])
        = padTo (64 * ((15 + w.body.length) / 64 + 1)) (w.headerBytes ++ w.body) := by
      rw [← flatMap_lineAt, List.range_succ_eq_map, List.flatMap_cons, List.flatMap_map, Working.finalHeader_eq,
        show lines = bodyLines w.body from rfl, bodyLines, List.flatMap_map]
      exact congrArg _ (List.flatMap_congr fun j _ => lineAt_append_of_sixteen w.headerBytes_length w.body j)
    refine (congrArg (List.take (16 + w.body.length)) hjoined).trans ?_
    rw [← hbytes, take_padTo (by rw [hbytes]; omega)]
    rfl

/-! ### Packet checks (R152) -/

theorem Function.ofNumber_number (fn : Function) : Function.ofNumber fn.number = some fn := by
  cases fn <;> decide

/-- A number names the function that has it, and no other (R172). -/
theorem Function.ofNumber_eq_some_iff {n : Nat} {fn : Function} : Function.ofNumber n = some fn ↔ fn.number = n := by
  refine ⟨fun h => ?_, fun h => h ▸ fn.ofNumber_number⟩
  simpa using List.find?_some h

theorem Function.ofNumber_eq_none {n : Nat} (h : ∀ fn : Function, fn.number ≠ n) : Function.ofNumber n = none :=
  Option.eq_none_iff_forall_ne_some.mpr fun fn hfn => h fn (Function.ofNumber_eq_some_iff.mp hfn)

theorem Function.multiPart_iff (fn : Function) : fn.multiPart = true ↔ fn = .loadWindows ∨ fn = .loadTracks := by
  cases fn <;> decide

/-- The part codes of R171. -/
theorem partOfCode_eq_some_iff {n : Nat} {p : Part} :
    partOfCode n = some p ↔ n = match p with
      | .only => 0
      | .first => 1
      | .middle => 2
      | .last => 3 := by
  unfold partOfCode
  cases p <;> repeat' split
  all_goals simp_all

theorem partOfCode_eq_none {n : Nat} (h : 3 < n) : partOfCode n = none := by
  rw [partOfCode, if_neg (by omega), if_neg (by omega), if_neg (by omega), if_neg (by omega)]

theorem partOfCode_of_le {n : Nat} (h : n ≤ 3) : ∃ p, partOfCode n = some p ∧ (p = .only ↔ n = 0) := by
  obtain rfl | rfl | rfl | rfl : n = 0 ∨ n = 1 ∨ n = 2 ∨ n = 3 := by omega
  · exact ⟨.only, rfl, by simp⟩
  · exact ⟨.first, rfl, by simp⟩
  · exact ⟨.middle, rfl, by simp⟩
  · exact ⟨.last, rfl, by simp⟩

/-- Check 5: the lines that a packet with `length` body bytes reaches. -/
theorem isCovered_iff (coverage : BitVec 16) (length : Nat) :
    isCovered coverage length = true ↔ ∀ k, 64 * k < 16 + length → coverage.getLsbD k = true := by
  rw [isCovered, List.all_eq_true]
  refine forall_congr' fun k => imp_congr_left ?_
  rw [List.mem_range]
  omega

/-- The kind byte of a function's class. -/
theorem isGet_eq_iff {kind : Nat} (h : kind = 0x31 ∨ kind = 0x32) (fn : Function) :
    fn.isGet = (kind == 0x32) ↔ kind = if fn.isGet then 0x32 else 0x31 := by
  rcases h with rfl | rfl <;> cases fn.isGet <;> decide

section checks

variable {buffer : List Byte} {coverage : BitVec 16}

/-- Check 1, first half. -/
theorem checkPacket_bad_kind
    (h : (fieldAt buffer 1 1 ≠ 0x31 ∧ fieldAt buffer 1 1 ≠ 0x32) ∨ fieldAt buffer 3 1 ≠ 0) :
    checkPacket buffer coverage = .error flagBadKind := by
  rw [checkPacket]
  exact if_pos h

variable (hkind : fieldAt buffer 1 1 = 0x31 ∨ fieldAt buffer 1 1 = 0x32) (hflags : fieldAt buffer 3 1 = 0)

include hkind hflags

/-- Check 2. -/
theorem checkPacket_bad_function (h : ∀ fn : Function, fn.number ≠ fieldAt buffer 4 2) :
    checkPacket buffer coverage = .error flagBadFunction := by
  have hpass : ¬ ((fieldAt buffer 1 1 ≠ 0x31 ∧ fieldAt buffer 1 1 ≠ 0x32) ∨ fieldAt buffer 3 1 ≠ 0) := by tauto
  simp only [checkPacket, if_neg hpass, Function.ofNumber_eq_none h]

/-- What is left of the checks once the function is known. -/
theorem checkPacket_of_function {fn : Function} (hfn : fn.number = fieldAt buffer 4 2) :
    checkPacket buffer coverage
      = if fieldAt buffer 1 1 ≠ (if fn.isGet then 0x32 else 0x31) then .error flagBadKind
        else
          match partOfCode (fieldAt buffer 2 1) with
          | none => .error flagBadPart
          | some part =>
            if part ≠ .only ∧ ¬ fn.multiPart then .error flagBadPart
            else if 1008 < fieldAt buffer 6 2 ∨ ¬ isCovered coverage (fieldAt buffer 6 2) then .error flagShortBody
            else if bodySum ((buffer.drop 16).take (fieldAt buffer 6 2)) ≠ fieldAt buffer 8 2 then .error flagCheckError
            else .ok ⟨fn, part, (buffer.drop 16).take (fieldAt buffer 6 2)⟩ := by
  have hpass : ¬ ((fieldAt buffer 1 1 ≠ 0x31 ∧ fieldAt buffer 1 1 ≠ 0x32) ∨ fieldAt buffer 3 1 ≠ 0) := by tauto
  simp only [checkPacket, if_neg hpass, Function.ofNumber_eq_some_iff.mpr hfn, ne_eq, isGet_eq_iff hkind] <;> rfl

end checks

/-- The kind byte, reserved byte and function of an accepted packet. -/
theorem checkPacket_ok_header {buffer : List Byte} {coverage : BitVec 16} {p : Packet}
    (h : checkPacket buffer coverage = .ok p) :
    (fieldAt buffer 1 1 = 0x31 ∨ fieldAt buffer 1 1 = 0x32) ∧ fieldAt buffer 3 1 = 0
      ∧ ∃ fn : Function, fn.number = fieldAt buffer 4 2 := by
  by_cases hkind : (fieldAt buffer 1 1 ≠ 0x31 ∧ fieldAt buffer 1 1 ≠ 0x32) ∨ fieldAt buffer 3 1 ≠ 0
  · rw [checkPacket_bad_kind hkind] at h
    cases h
  · have hkind' : (fieldAt buffer 1 1 = 0x31 ∨ fieldAt buffer 1 1 = 0x32) ∧ fieldAt buffer 3 1 = 0 := by tauto
    refine ⟨hkind'.1, hkind'.2, ?_⟩
    by_contra hnone
    rw [checkPacket_bad_function hkind'.1 hkind'.2 fun fn hfn => hnone ⟨fn, hfn⟩] at h
    cases h

/-- The packets that pass checks 1 to 6, and what they are read as. -/
theorem checkPacket_ok_iff (buffer : List Byte) (coverage : BitVec 16) (p : Packet) :
    checkPacket buffer coverage = .ok p ↔
      (fieldAt buffer 1 1 = if p.function.isGet then 0x32 else 0x31) ∧ fieldAt buffer 3 1 = 0
      ∧ fieldAt buffer 4 2 = p.function.number ∧ partOfCode (fieldAt buffer 2 1) = some p.part
      ∧ (p.part ≠ .only → p.function.multiPart = true) ∧ fieldAt buffer 6 2 ≤ 1008
      ∧ isCovered coverage (fieldAt buffer 6 2) = true ∧ p.body = (buffer.drop 16).take (fieldAt buffer 6 2)
      ∧ bodySum p.body = fieldAt buffer 8 2 := by
  constructor
  · intro h
    obtain ⟨hkind, hflags, fn, hfn⟩ := checkPacket_ok_header h
    rw [checkPacket_of_function hkind hflags hfn] at h
    by_cases hclass : fieldAt buffer 1 1 = if fn.isGet then 0x32 else 0x31
    · rw [if_neg (not_not.mpr hclass)] at h
      cases hpart : partOfCode (fieldAt buffer 2 1) with
      | none => simp only [hpart, reduceCtorEq] at h
      | some part =>
        simp only [hpart] at h
        split_ifs at h with hmulti hshort hsum
        cases h
        obtain ⟨hlength, hcovered⟩ := not_or.mp hshort
        exact ⟨hclass, hflags, hfn.symm, rfl, fun hp => by_contra fun hm => hmulti ⟨hp, hm⟩, Nat.not_lt.mp hlength,
          not_not.mp hcovered, rfl, not_not.mp hsum⟩
    · rw [if_pos hclass] at h
      cases h
  · rintro ⟨hclass, hflags, hfn, hpart, hmulti, hlength, hcovered, hbody, hsum⟩
    have hkind : fieldAt buffer 1 1 = 0x31 ∨ fieldAt buffer 1 1 = 0x32 := by
      rw [hclass]
      cases p.function.isGet <;> decide
    have hmulti' : ¬ (p.part ≠ .only ∧ ¬ p.function.multiPart) := fun h => h.2 (hmulti h.1)
    have hlength' : ¬ (1008 < fieldAt buffer 6 2 ∨ ¬ isCovered coverage (fieldAt buffer 6 2)) :=
      not_or.mpr ⟨Nat.not_lt.mpr hlength, not_not.mpr hcovered⟩
    rw [checkPacket_of_function hkind hflags hfn.symm, if_neg (not_not.mpr hclass), hpart]
    simp only [if_neg hmulti', if_neg hlength', ← hbody, hsum, ne_eq, not_true_eq_false, if_false]

/-- Settles O11: the checks in their order, each with its flag. -/
theorem packetChecksAcceptExactly : Obligations.PacketChecksAcceptExactly := by
  unfold Obligations.PacketChecksAcceptExactly
  intro buffer coverage kind flags number length body marked fails
  refine ⟨fun p => ?_, fun h => checkPacket_bad_kind h, fun hkind hflags => ⟨fun hfn =>
    checkPacket_bad_function hkind hflags hfn, fun fn hfn => ?_⟩⟩
  · rw [checkPacket_ok_iff, partOfCode_eq_some_iff, Function.multiPart_iff, isCovered_iff, bodySum_eq] <;> exact Iff.rfl
  · have hcheck := checkPacket_of_function (coverage := coverage) hkind hflags hfn
    refine ⟨fun hclass => hcheck.trans (if_pos hclass), fun hclass => ?_⟩
    have hmulti : fn.multiPart = true ↔ ¬ (fn ≠ .loadWindows ∧ fn ≠ .loadTracks) := by
      rw [Function.multiPart_iff]
      tauto
    rw [if_neg (not_not.mpr hclass)] at hcheck
    refine ⟨fun hpart => ?_, fun hcode hsingle => ⟨fun hshort => ?_, fun hlength hmarked hsum => ?_⟩⟩
    · rcases hpart with hpart | ⟨hsingle, hpart⟩
      · exact hcheck.trans (by rw [partOfCode_eq_none hpart]; rfl)
      · rcases Nat.lt_or_ge 3 (fieldAt buffer 2 1) with hlarge | hsmall
        · exact hcheck.trans (by rw [partOfCode_eq_none hlarge]; rfl)
        · obtain ⟨p, hp, honly⟩ := partOfCode_of_le hsmall
          rw [hp] at hcheck
          exact hcheck.trans (if_pos ⟨mt honly.mp hpart, fun h => hmulti.mp h hsingle⟩)
    all_goals
      obtain ⟨p, hp, honly⟩ := partOfCode_of_le hcode
      have hpass : ¬ (p ≠ .only ∧ ¬ fn.multiPart) := fun h =>
        h.1 (honly.mpr (hsingle (not_not.mp (mt hmulti.mpr h.2))))
      simp only [hp, if_neg hpass] at hcheck
    · have hbad : 1008 < fieldAt buffer 6 2 ∨ ¬ isCovered coverage (fieldAt buffer 6 2) := by
        rw [isCovered_iff]
        exact hshort
      exact hcheck.trans (if_pos hbad)
    · have hgood : ¬ (1008 < fieldAt buffer 6 2 ∨ ¬ isCovered coverage (fieldAt buffer 6 2)) := by
        rw [isCovered_iff]
        exact not_or.mpr ⟨Nat.not_lt.mpr hlength, not_not.mpr hmarked⟩
      rw [if_neg hgood, bodySum_eq] at hcheck
      exact hcheck.trans (if_pos hsum)

end Sys2Proof.Machine
end

section
/-! The functions whose owners check and then replace one record (R5, R60, R98, R141, R158, R164): their checks in
order, and what they replace. -/

namespace Sys2Proof.Machine

open Sys2Proof.Spec

/-! ### What the take leaves alone (R151) -/

/-- The take changes the outputs, the Command Unit and the path, and nothing else. -/
theorem takenWith_eq (s : State) (seq : Byte) (field : BitVec 16) :
    takenWith s seq field
      = { quiet s with cmd := (takenWith s seq field).cmd, path := (takenWith s seq field).path } := by
  unfold takenWith
  split <;> rfl

section taken

variable (s : State) (seq : Byte) (fn : Function)

theorem taken_eq :
    taken s seq fn = { quiet s with cmd := (taken s seq fn).cmd, path := (taken s seq fn).path } :=
  takenWith_eq s seq _

@[simp] theorem taken_pending : (taken s seq fn).pending = s.pending := by rw [taken_eq]

@[simp] theorem taken_straps : (taken s seq fn).straps = s.straps := by rw [taken_eq]

@[simp] theorem taken_sess : (taken s seq fn).sess = s.sess := by rw [taken_eq]

@[simp] theorem taken_tracks : (taken s seq fn).tracks = s.tracks := by rw [taken_eq]

@[simp] theorem taken_ft : (taken s seq fn).ft = s.ft := by rw [taken_eq]

@[simp] theorem taken_aw : (taken s seq fn).aw = s.aw := by rw [taken_eq]

@[simp] theorem taken_sw : (taken s seq fn).sw = s.sw := by rw [taken_eq]

@[simp] theorem taken_rw : (taken s seq fn).rw = s.rw := by rw [taken_eq]

@[simp] theorem taken_report : (taken s seq fn).report = s.report := by rw [taken_eq]

@[simp] theorem taken_causes : (taken s seq fn).cmd.causes = s.cmd.causes := by
  unfold taken takenWith
  split <;> rfl

@[simp] theorem taken_regionsButReports : (taken s seq fn).regionsButReports = s.regionsButReports := by
  unfold State.regionsButReports
  rw [taken_sess, taken_straps, taken_aw, taken_sw]

end taken

/-! ### Conditions that checks make -/

theorem State.isIdle_iff (s : State) : s.isIdle = true ↔ ¬ s.sess.state ≠ .idle := by
  simp [State.isIdle]

theorem isPageAligned_iff (addr : Nat) : isPageAligned addr = true ↔ ¬ addr % 4096 ≠ 0 := by
  simp [isPageAligned, pageSize]

/-- A flag field is 0 or 1 (R170). -/
theorem isFlag_iff (b : Byte) : isFlag b.toNat = true ↔ b = 0 ∨ b = 1 := by
  rw [isFlag, decide_eq_true_iff, BitVec.toNat_eq, BitVec.toNat_eq]
  show b.toNat ≤ 1 ↔ b.toNat = 0 ∨ b.toNat = 1
  omega

theorem Region.overlaps_iff (a b : Region) : a.overlaps b = true ↔ Overlap a b := by
  rw [Region.overlaps, Bool.and_eq_true, decide_eq_true_iff, decide_eq_true_iff]

/-! ### SetSession (R5) -/

/-- The checks of R5 in order, and the record. -/
theorem State.execute_setSession {s : State} (hw : s.cmd.working ≠ none) (n : BitVec 16) (d r : Byte) (us : BitVec 32) :
    s.execute (fun x => x.setSession n.toNat d.toNat r.toNat us.toNat)
      = if s.sess.state ≠ .idle then refused s .notIdle
        else if n ≠ 64 ∧ n ≠ 128 ∧ n ≠ 256 then refused s .badValue
        else if d = 0 ∨ 4 < d.toNat then refused s .badValue
        else if r ≠ 1 ∧ r ≠ 2 then refused s .badValue
        else
          done
            (s.setSess
              { s.sess with
                record := some ⟨n.toNat, d.toNat, max 100 (min us.toNat 100000), if r = 1 then .r48k else .r96k⟩ })
            [] := by
  have hsize : isBlockSize n.toNat = true ↔ ¬ (n ≠ 64 ∧ n ≠ 128 ∧ n ≠ 256) := by
    simp only [isBlockSize, Bool.or_eq_true, beq_iff_eq, ne_eq, BitVec.toNat_eq]
    show (_ = 64 ∨ _ = 128) ∨ _ = 256 ↔ ¬ (¬ _ = 64 ∧ ¬ _ = 128 ∧ ¬ _ = 256)
    omega
  have hlateness : decide (1 ≤ d.toNat ∧ d.toNat ≤ 4) = true ↔ ¬ (d = 0 ∨ 4 < d.toNat) := by
    rw [decide_eq_true_iff, BitVec.toNat_eq]
    show _ ↔ ¬ (d.toNat = 0 ∨ _)
    omega
  have hrate : decide (1 ≤ r.toNat ∧ r.toNat ≤ 2) = true ↔ ¬ (r ≠ 1 ∧ r ≠ 2) := by
    rw [decide_eq_true_iff, ne_eq, ne_eq, BitVec.toNat_eq, BitVec.toNat_eq]
    show _ ↔ ¬ (¬ r.toNat = 1 ∧ ¬ r.toNat = 2)
    omega
  have hcode : rateOf r.toNat = if r = 1 then .r48k else .r96k := by
    simp only [rateOf, BitVec.toNat_eq]
    rfl
  refine State.answer_checked_cons hw s.isIdle_iff _ ?_
  refine State.answer_checked_cons hw hsize _ ?_
  refine State.answer_checked_cons hw hlateness _ ?_
  refine State.answer_checked_cons hw hrate _ ?_
  rw [clamp_eq (by decide), hcode]
  exact State.answer_checked_nil hw (s.setSess_cmd _) []

/-- Settles O14: the take, the checks of R5, and the session record replaced. -/
theorem setSessionResult : Obligations.SetSessionResult := by
  unfold Obligations.SetSessionResult
  intro s seq n d r us hreach u
  have hrun := State.execute_setSession (taken_working s seq .setSession) n d r us
  rw [taken_sess] at hrun
  exact congrArg Host.Outcome.next ((State.takeFunction_of_reaches hreach _ _).trans hrun)

/-! ### LoadReleaseOrder (R98) -/

/-- The checks of R98 in order, and the list. -/
theorem State.execute_loadReleaseOrder {s : State} (hw : s.cmd.working ≠ none) (ts : List Byte) :
    s.execute (fun x => x.loadReleaseOrder ts)
      = if s.sess.state ≠ .idle then refused s .notIdle
        else if 128 < ts.length then refused s .capacity
        else if ¬ ∀ t ∈ ts, t.toNat ≤ 127 then refused s .badValue
        else if ¬ ts.Nodup then refused s .duplicateEntry
        else done (s.setAw { s.aw with releaseOrder := ts.map BitVec.toNat }) [] := by
  refine State.answer_checked_cons hw s.isIdle_iff _ ?_
  refine State.answer_checked_cons hw (by simp) _ ?_
  refine State.answer_checked_cons hw (by simp) _ ?_
  refine State.answer_checked_cons hw (by rw [noRepeats_iff, not_not]) _ ?_
  exact State.answer_checked_nil hw (s.setAw_cmd _) []

/-- Settles O19: the take, the checks of R98, and the Release Order List replaced. -/
theorem loadReleaseOrderResult : Obligations.LoadReleaseOrderResult := by
  unfold Obligations.LoadReleaseOrderResult
  intro s seq ts hreach u
  have hrun := State.execute_loadReleaseOrder (taken_working s seq .loadReleaseOrder) ts
  rw [taken_sess, taken_aw] at hrun
  exact congrArg Host.Outcome.next ((State.takeFunction_of_reaches hreach _ _).trans hrun)

/-! ### SetBusMute (R60) -/

/-- The check of R60, and the mute Targets of the selected buses. -/
theorem State.execute_setBusMute {s : State} (hw : s.cmd.working ≠ none) (selection setting : Byte) :
    s.execute (fun x => x.setBusMute selection setting)
      = if setting ≠ 0 ∧ setting ≠ 1 then refused s .badValue
        else
          done
            (s.setBuses (s.buses.zipIdx.map fun (b, n) =>
              if selection.getLsbD n = true then { b with muteTarget := decide (setting = 1) } else b)) [] := by
  have hsetting : isFlag setting.toNat = true ↔ ¬ (setting ≠ 0 ∧ setting ≠ 1) := by
    rw [isFlag_iff]
    tauto
  refine State.answer_checked_cons hw hsetting _ ?_
  rw [muteBuses_eq]
  exact State.answer_checked_nil hw (s.setBuses_cmd _) []

/-- Settles O22: the take, the check of R60, and the selected buses' mute Targets. -/
theorem setBusMuteResult : Obligations.SetBusMuteResult := by
  unfold Obligations.SetBusMuteResult
  intro s seq selection setting hreach u
  have hrun := State.execute_setBusMute (taken_working s seq .setBusMute) selection setting
  rw [taken_buses] at hrun
  exact congrArg Host.Outcome.next ((State.takeFunction_of_reaches hreach _ _).trans hrun)

/-! ### SetReports (R164, R168) -/

/-- Check 1 of R164: every byte of both flag fields is 0 or 1. -/
theorem areFlags_and_iff (records pulses : BitVec 64) :
    (areFlags records && areFlags pulses) = true
      ↔ ¬ ¬ ∀ f ∈ leBytes 8 records.toNat ++ leBytes 8 pulses.toNat, f = 0 ∨ f = 1 := by
  simp only [Bool.and_eq_true, areFlags, List.all_eq_true, isFlag_iff, List.forall_mem_append, not_not]

/-- Check 2 of R164: a power of two from 16 to 4096. -/
theorem isRecordCount_iff (n : Nat) : isRecordCount n = true ↔ ¬ ¬ ∃ k ≤ 12, 4 ≤ k ∧ n = 2 ^ k := by
  rw [isRecordCount, List.contains_iff_mem, not_not]
  constructor
  · intro h
    simp only [List.mem_cons, List.not_mem_nil, or_false] at h
    rcases h with h | h | h | h | h | h | h | h | h
    · exact ⟨4, by decide, by decide, h⟩
    · exact ⟨5, by decide, by decide, h⟩
    · exact ⟨6, by decide, by decide, h⟩
    · exact ⟨7, by decide, by decide, h⟩
    · exact ⟨8, by decide, by decide, h⟩
    · exact ⟨9, by decide, by decide, h⟩
    · exact ⟨10, by decide, by decide, h⟩
    · exact ⟨11, by decide, by decide, h⟩
    · exact ⟨12, by decide, by decide, h⟩
  · rintro ⟨k, hmax, hmin, rfl⟩
    interval_cases k <;> decide

/-- The classes above 0 have even weights, so their flags leave the parity of the field alone. -/
theorem foldl_classFlag_mod_two (field : BitVec 64) (classes : List Nat) (h : ∀ c ∈ classes, c ≠ 0) (n : Nat) :
    classes.foldl (fun n c => n + (if field.getLsbD (8 * c) then 2 ^ c else 0)) n % 2 = n % 2 := by
  induction classes generalizing n with
  | nil => rfl
  | cons c cs ih =>
    obtain ⟨hc, hcs⟩ := List.forall_mem_cons.mp h
    obtain ⟨k, rfl⟩ := Nat.exists_eq_succ_of_ne_zero hc
    rw [List.foldl_cons, ih hcs]
    split
    · rw [Nat.pow_succ]
      omega
    · rfl

theorem classFlags_getLsbD_zero (field : BitVec 64) : (classFlags field).getLsbD 0 = field.getLsbD 0 := by
  have hrest := foldl_classFlag_mod_two field ((List.range 7).map Nat.succ) (by simp)
    (if field.getLsbD 0 then 1 else 0)
  have hfold : (List.range 8).foldl (fun n c => n + (if field.getLsbD (8 * c) then 2 ^ c else 0)) 0
      = ((List.range 7).map Nat.succ).foldl (fun n c => n + (if field.getLsbD (8 * c) then 2 ^ c else 0))
        (if field.getLsbD 0 then 1 else 0) := by
    rw [List.range_succ_eq_map, List.foldl_cons, Nat.zero_add]
    rfl
  rw [classFlags, hfold, BitVec.getLsbD_ofNat, Nat.testBit_zero, hrest]
  cases field.getLsbD 0 <;> rfl

/-- The checks of R164 in order, and the new settings. -/
theorem State.execute_setReports {s : State} (hw : s.cmd.working ≠ none) (b : ReportsBody) :
    s.execute (fun x => x.setReports b)
      = if ¬ ∀ f ∈ leBytes 8 b.records.toNat ++ leBytes 8 b.pulses.toNat, f = 0 ∨ f = 1 then refused s .badValue
        else if ¬ ∃ k ≤ 12, 4 ≤ k ∧ b.count.toNat = 2 ^ k then refused s .badValue
        else if b.base.toNat % 4096 ≠ 0 then refused s .badValue
        else if 2 ^ 40 < b.base.toNat + 32 * b.count.toNat then refused s .badValue
        else if ∃ r ∈ s.regionsButReports, Overlap r ⟨b.base.toNat, 32 * b.count.toNat⟩ then refused s .overlap
        else
          done
            (s.setRw
              ⟨some ⟨b.base.toNat, b.count.toNat, classFlags b.records, classFlags b.pulses⟩, 0, 0,
                if s.rw.startup then
                  [⟨⟨.startup, 0, none, s.cmd.causes.value, b.count.toNat⟩, b.pulses.getLsbD 0⟩]
                else [],
                0, false⟩) [] := by
  have htop : decide (b.base.toNat + 32 * b.count.toNat ≤ addressTop) = true
      ↔ ¬ 2 ^ 40 < b.base.toNat + 32 * b.count.toNat := by
    rw [decide_eq_true_iff, Nat.not_lt]
    rfl
  have hoverlap : (!s.regionsButReports.any fun r => r.overlaps (reportRegion b.base.toNat b.count.toNat)) = true
      ↔ ¬ ∃ r ∈ s.regionsButReports, Overlap r ⟨b.base.toNat, 32 * b.count.toNat⟩ := by
    simp only [Bool.not_eq_true', ← Bool.not_eq_true, List.any_eq_true, Region.overlaps_iff]
    rfl
  refine State.answer_checked_cons hw (areFlags_and_iff _ _) _ ?_
  refine State.answer_checked_cons hw (isRecordCount_iff _) _ ?_
  refine State.answer_checked_cons hw (isPageAligned_iff _) _ ?_
  refine State.answer_checked_cons hw htop _ ?_
  refine State.answer_checked_cons hw hoverlap _ ?_
  rw [State.answer_checked_nil hw (s.setRw_cmd _) [], ReportWriter.configure, classFlags_getLsbD_zero]
  rfl

/-- Settles O26: the take, the checks of R164, and the Report Writer with its new settings. -/
theorem setReportsResult : Obligations.SetReportsResult := by
  unfold Obligations.SetReportsResult
  intro s seq b hreach u ring
  have hrun := State.execute_setReports (taken_working s seq .setReports) b
  rw [taken_regionsButReports, taken_rw, taken_causes] at hrun
  exact congrArg Host.Outcome.next ((State.takeFunction_of_reaches hreach _ _).trans hrun)

/-! ### SetInsertion and PinSettings (R141, R158) -/

/-- The check of R141, and the levels and the share. -/
theorem State.execute_setInsertion {s : State} (hw : s.cmd.working ≠ none) (b : InsertionBody) :
    s.execute (fun x => x.setInsertion b)
      = if 3 < b.response.toNat ∨ 3 < b.report.toNat ∨ 3 < b.stream.toNat ∨ 3 < b.mirror.toNat ∨ 3 < b.archive.toNat then
          refused s .badValue
        else
          done
            (s.setPath
              { s.path with
                levels := ⟨b.response.toNat, b.report.toNat, b.stream.toNat, b.mirror.toNat, b.archive.toNat⟩
                shareLimit := max 1 (min b.share.toNat 16) })
            [] := by
  refine State.answer_checked_cons hw ?_ _ ?_
  · simp only [List.all_eq_true, decide_eq_true_eq, not_or, Nat.not_lt]
    simp only [Producer.all, List.forall_mem_cons, List.not_mem_nil, false_imp_iff, implies_true, and_true,
      PerProducer.get]
  · rw [clamp_eq (by decide)]
    exact State.answer_checked_nil hw (s.setPath_cmd _) []

/-- The check of R158, and the pin flag. -/
theorem State.execute_pinSettings {s : State} (hw : s.cmd.working ≠ none) (setting : Byte) :
    s.execute (fun x => x.pinSettings setting)
      = if setting = 0 ∨ setting = 1 then done { s with cmd := { s.cmd with pin := decide (setting = 1) } } []
        else refused s .badValue := by
  have hsetting : isFlag setting.toNat = true ↔ ¬ ¬ (setting = 0 ∨ setting = 1) := by rw [isFlag_iff, not_not]
  rw [← ite_not]
  refine State.answer_checked_cons hw hsetting _ ?_
  rw [State.checked_nil]
  exact State.answer_done (s := s.setCmd { s.cmd with pin := setting == 1 }) hw []

/-- Settles O27: the two takes, the checks of R141 and R158, and the settings. -/
theorem insertionAndPinSettingsResult : Obligations.InsertionAndPinSettingsResult := by
  unfold Obligations.InsertionAndPinSettingsResult
  intro s seq setting b hreach u v
  have hinsertion := State.execute_setInsertion (taken_working s seq .setInsertion) b
  have hpin := State.execute_pinSettings (taken_working s seq .pinSettings) setting
  exact ⟨congrArg Host.Outcome.next ((State.takeFunction_of_reaches hreach _ _).trans hinsertion),
    congrArg Host.Outcome.next ((State.takeFunction_of_reaches hreach _ _).trans hpin)⟩

end Sys2Proof.Machine
end

section
/-! SetStream (R115, R130): the checks of an enabled record, and the stream whose record and ring are replaced. -/

namespace Sys2Proof.Machine

open Sys2Proof.Spec

/-! ### Checks that rely on the ones before them -/

/-- A function whose first check fails exactly where `P` holds; the rest matters only where it does not. -/
theorem State.answer_checked_cons_of_not {s t : State} (hw : s.cmd.working ≠ none) {ok : Bool} {P : Prop} [Decidable P]
    (hok : ok = true ↔ ¬ P) (r : Reason) {rest : List (Bool × Reason)} {act : State × Reply}
    (hrest : ¬ P → (s.checked rest act).1.answer (s.checked rest act).2 = t) :
    (s.checked ((ok, r) :: rest) act).1.answer (s.checked ((ok, r) :: rest) act).2
      = if P then refused s r else t := by
  by_cases hp : P
  · have hfail : ok = false := by rwa [← Bool.not_eq_true, hok, not_not]
    rw [State.checked_cons, hfail, if_pos hp]
    exact State.answer_refused hw r
  · rw [if_neg hp, State.checked_cons, if_pos (hok.mpr hp), hrest hp]

/-! ### The bus list of a stream record (R115) -/

/-- The bytes of a field, one by one. -/
theorem leBytes_eq_map (n x : Nat) : leBytes n x = (List.range n).map fun i => BitVec.ofNat 8 (x / 256 ^ i) := by
  induction n generalizing x with
  | zero => rfl
  | succ n ih =>
    rw [leBytes, ih, List.range_succ_eq_map, List.map_cons, List.map_map, pow_zero, Nat.div_one]
    refine congrArg _ (List.map_congr_left fun i _ => ?_)
    rw [Function.comp_apply, Nat.div_div_eq_div_mul, Nat.pow_succ, Nat.mul_comm 256]

/-- The bus list is the first bus-count bytes of the field, while there are that many. -/
theorem busList_eq {b : StreamBody} (h : b.busCount.toNat ≤ 8) :
    b.busList = ((leBytes 8 b.buses.toNat).take b.busCount.toNat).map BitVec.toNat := by
  rw [leBytes_eq_map, List.map_take, List.map_map, ← List.map_take, List.take_range, Nat.min_eq_left h, StreamBody.busList]
  refine List.map_congr_left fun i _ => ?_
  rw [Function.comp_apply, BitVec.toNat_ofNat]

/-- Check 7 of R115. -/
theorem streamFlags_iff (b : StreamBody) :
    (isFlag b.width.toNat && isFlag b.dither.toNat && !(b.dither == 1 && b.width == 1)) = true
      ↔ ¬ (1 < b.width.toNat ∨ 1 < b.dither.toNat ∨ (b.dither = 1 ∧ b.width = 1)) := by
  simp only [isFlag, Bool.and_eq_true, decide_eq_true_eq, Bool.not_eq_true', ← Bool.not_eq_true, beq_iff_eq, not_or,
    Nat.not_lt, and_assoc]

/-- Where the ring ends with a block size of 256 (R115, check 11; R116). -/
theorem ringEnd_eq (b : StreamBody) :
    b.base.toNat + b.slotCount.toNat * b.slotSize 256
      = b.base.toNat + b.slotCount.toNat * (64 + 256 * b.busCount.toNat * (if b.width = 0 then 2 else 4)) := by
  rw [StreamBody.slotSize, StreamBody.payloadBytes, StreamBody.sampleBytes]
  simp only [beq_iff_eq]

/-- Checks 4 to 11 of R115 in order, for a function that then makes `t` of the part. -/
theorem State.answer_streamChecks {s t u : State} (hw : s.cmd.working ≠ none) (b : StreamBody) (hcmd : t.cmd = s.cmd)
    (hu : ¬ (b.slotCount.toNat < 4 ∨ 64 < b.slotCount.toNat) → done t [] = u) :
    (s.checked (streamChecks b) (t, .done [])).1.answer (s.checked (streamChecks b) (t, .done [])).2
      = if b.busCount = 0 then refused s .badValue
        else if 8 < b.busCount.toNat then refused s .capacity
        else if ¬ ∀ n ∈ (leBytes 8 b.buses.toNat).take b.busCount.toNat, n.toNat ≤ 7 then refused s .badValue
        else if 1 < b.width.toNat ∨ 1 < b.dither.toNat ∨ (b.dither = 1 ∧ b.width = 1) then refused s .badValue
        else if b.base.toNat % 4096 ≠ 0 then refused s .badValue
        else if b.slotCount.toNat < 4 ∨ 64 < b.slotCount.toNat then refused s .badValue
        else if 1 < b.policy.toNat then refused s .badValue
        else if 2 ^ 40 < b.base.toNat + b.slotCount.toNat *
            (64 + 256 * b.busCount.toNat * (if b.width = 0 then 2 else 4)) then refused s .badValue
        else if ¬ ((leBytes 8 b.buses.toNat).take b.busCount.toNat).Nodup then refused s .duplicateEntry
        else u := by
  have hcount : decide (1 ≤ b.busCount.toNat) = true ↔ ¬ b.busCount = 0 := by
    rw [decide_eq_true_iff, BitVec.toNat_eq, Nat.one_le_iff_ne_zero]
    rfl
  refine State.answer_checked_cons hw hcount _ ?_
  refine State.answer_checked_cons_of_not hw (by simp) _ fun hfew => ?_
  have hlist := busList_eq (Nat.not_lt.mp hfew)
  refine State.answer_checked_cons hw ?_ _ ?_
  · rw [hlist, List.all_map, List.all_eq_true, not_not]
    simp only [Function.comp_apply, decide_eq_true_eq]
  refine State.answer_checked_cons hw (streamFlags_iff b) _ ?_
  refine State.answer_checked_cons hw (isPageAligned_iff _) _ ?_
  refine State.answer_checked_cons_of_not hw ?_ _ fun hslots => ?_
  · rw [decide_eq_true_iff, not_or, Nat.not_lt, Nat.not_lt]
  refine State.answer_checked_cons hw (by simp [isFlag]) _ ?_
  refine State.answer_checked_cons hw ?_ _ ?_
  · rw [ringEnd_eq, decide_eq_true_iff, Nat.not_lt]
    rfl
  refine State.answer_checked_cons hw ?_ _ ?_
  · rw [noRepeats_iff, hlist, List.nodup_map_iff BitVec.toNat_injective, not_not]
  rw [← hu hslots]
  exact State.answer_checked_nil hw hcmd []

/-! ### The stream that is replaced (R115, R130) -/

/-- The Stream Writer with the record of one stream stored and its ring set anew. -/
def StreamWriter.store (w : StreamWriter) (b : StreamBody) : StreamWriter :=
  { w with
    streams := w.streams.zipIdx.map fun (x, k) =>
      if k = b.stream.toNat then
        { x with
          record := some b, slots := List.replicate b.slotCount.toNat ⟨.free, [], false⟩
          writePosition := 0, watermarkArmed := true, staleArmed := true, staleCount := 0 }
      else x }

theorem StreamWriter.modifyStream_resetRing (w : StreamWriter) (b c : StreamBody) (hstream : c.stream = b.stream)
    (hslots : c.slotCount = b.slotCount) :
    (w.modifyStream b.stream.toNat fun x => Stream.resetRing { x with record := some c } b.slotCount.toNat)
      = w.store c := by
  rw [StreamWriter.store, StreamWriter.modifyStream, ← map_zipIdx_eq_modify (k := 0), hstream, hslots]
  rfl

/-- The tuning values of an enabled record in their ranges, said with `max` and `min`. -/
theorem clampStream_eq {b : StreamBody} (h : ¬ (b.slotCount.toNat < 4 ∨ 64 < b.slotCount.toNat)) :
    clampStream b
      = { b with
          watermark := BitVec.ofNat 16 (max 1 (min b.watermark.toNat b.slotCount.toNat))
          staleLimit := BitVec.ofNat 16 (max 1 (min b.staleLimit.toNat 1000)) } := by
  rw [clampStream, clamp_eq (by omega), clamp_eq (by decide)]

/-- The checks of R115 in order, and the stream's record. -/
theorem State.execute_setStream {s : State} (hw : s.cmd.working ≠ none) (b : StreamBody) :
    s.execute (fun x => x.setStream b)
      = if s.sess.state ≠ .idle then refused s .notIdle
        else if 3 < b.stream.toNat then refused s .badValue
        else if b.enabled ≠ 0 ∧ b.enabled ≠ 1 then refused s .badValue
        else if b.enabled = 0 then done (s.setSw (s.sw.store b)) []
        else if b.busCount = 0 then refused s .badValue
        else if 8 < b.busCount.toNat then refused s .capacity
        else if ¬ ∀ n ∈ (leBytes 8 b.buses.toNat).take b.busCount.toNat, n.toNat ≤ 7 then refused s .badValue
        else if 1 < b.width.toNat ∨ 1 < b.dither.toNat ∨ (b.dither = 1 ∧ b.width = 1) then refused s .badValue
        else if b.base.toNat % 4096 ≠ 0 then refused s .badValue
        else if b.slotCount.toNat < 4 ∨ 64 < b.slotCount.toNat then refused s .badValue
        else if 1 < b.policy.toNat then refused s .badValue
        else if 2 ^ 40 < b.base.toNat + b.slotCount.toNat *
            (64 + 256 * b.busCount.toNat * (if b.width = 0 then 2 else 4)) then refused s .badValue
        else if ¬ ((leBytes 8 b.buses.toNat).take b.busCount.toNat).Nodup then refused s .duplicateEntry
        else
          done
            (s.setSw
              (s.sw.store
                { b with
                  watermark := BitVec.ofNat 16 (max 1 (min b.watermark.toNat b.slotCount.toNat))
                  staleLimit := BitVec.ofNat 16 (max 1 (min b.staleLimit.toNat 1000)) }))
            [] := by
  have henabled : isFlag b.enabled.toNat = true ↔ ¬ (b.enabled ≠ 0 ∧ b.enabled ≠ 1) := by
    rw [isFlag_iff]
    tauto
  refine State.answer_checked_cons hw s.isIdle_iff _ ?_
  refine State.answer_checked_cons hw (by simp) _ ?_
  refine State.answer_checked_cons_of_not hw henabled _ fun hflag => ?_
  by_cases hzero : b.enabled = 0
  · have hone : ¬ (b.enabled == 1) = true := by rw [hzero]; decide
    rw [if_pos hzero, if_neg hone, if_neg hone, s.sw.modifyStream_resetRing b b rfl rfl]
    exact State.answer_checked_nil hw (s.setSw_cmd (s.sw.store b)) []
  · have hone : (b.enabled == 1) = true := beq_iff_eq.mpr (by tauto)
    rw [if_neg hzero, if_pos hone, if_pos hone, s.sw.modifyStream_resetRing b (clampStream b) rfl rfl]
    exact State.answer_streamChecks hw b rfl fun hslots => by rw [clampStream_eq hslots]

/-- Settles O23: the take, the checks of R115, and the stream's record and ring. -/
theorem setStreamResult : Obligations.SetStreamResult := by
  unfold Obligations.SetStreamResult
  intro s seq b hreach u used store
  have hrun := State.execute_setStream (taken_working s seq .setStream) b
  rw [taken_sess, taken_sw] at hrun
  exact congrArg Host.Outcome.next ((State.takeFunction_of_reaches hreach _ _).trans hrun)

end Sys2Proof.Machine
end

section
/-! The Segment Directory and the archive functions (R97, R101, R105, R106, R108): directory lines byte by byte, what
appending records does to the table and the output list, SetArchive and ReleaseSegment. -/

namespace Sys2Proof.Machine

open Sys2Proof.Spec

/-! ### Filing, in the manual's terms (R165) -/

theorem filed_eq (w : ReportWriter) (r : Record) : filed w r = w.file r := by
  unfold filed ReportWriter.file
  cases w.settings with
  | none => rfl
  | some c =>
    have hfull : w.queue.length = 32 ∨ 32 < w.queue.length ↔ ¬ w.queue.length < recordQueueSize := by
      show _ ↔ ¬ w.queue.length < 32
      omega
    cases hclass : c.records.getLsbD r.kind.classCode with
    | false => simp only [hclass, Bool.false_eq_true, if_false, if_true]
    | true => simp only [hclass, if_true, Bool.true_eq_false, if_false, hfull, ite_not]

theorem filedAll_eq (w : ReportWriter) (rs : List Record) : filedAll w rs = rs.foldl (fun w r => w.file r) w := by
  induction rs generalizing w with
  | nil => rfl
  | cons r rs ih => rw [filedAll, List.foldl_cons, List.foldl_cons, filed_eq, ← ih, filedAll]

theorem State.file_eq_filed (s : State) (r : Record) : s.file r = { s with rw := filed s.rw r } := by
  rw [filed_eq]
  rfl

theorem State.fileAll_eq_filedAll (s : State) (rs : List Record) : s.fileAll rs = { s with rw := filedAll s.rw rs } := by
  rw [filedAll_eq]
  rfl

/-! ### Directory lines (R101, R175) -/

theorem directoryHeader_eq (a : Area) : directoryHeader a = directoryHeaderLine a := by
  rw [directoryHeader, padTo_of_length_le (by simp [lineSize])]
  rfl

theorem directoryRecord_eq (n : Nat) (x : Segment) (serial : Nat) :
    directoryRecord n x serial = directoryRecordLine n x serial := by
  rw [directoryRecord, directoryRecordLine]
  cases x.state with
  | free =>
    rw [padTo_of_length_le (by simp [lineSize])]
    simp only [List.append_assoc, List.length_append, leBytes_length]
    rfl
  | opened =>
    rw [padTo_of_length_le (by simp [lineSize])]
    simp only [List.append_assoc, List.length_append, leBytes_length]
    rfl
  | closed =>
    rw [padTo_of_length_le (by simp [lineSize])]
    simp only [List.append_assoc, List.length_append, leBytes_length]
    cases x.cause <;> rfl

/-- A directory record does not carry the update serial that its segment had before. -/
theorem directoryRecord_updateSerial (n : Nat) (x : Segment) (old serial : Nat) :
    directoryRecord n { x with updateSerial := old } serial = directoryRecord n x serial := rfl

/-! ### Appending records (R101, R105) -/

/-- The update serial after `j` records, from `u` on. -/
def serialAfter (u j : Nat) : Nat := min (u + j) 4294967295

theorem serialAfter_zero {u : Nat} (h : u ≤ 4294967295) : serialAfter u 0 = u := Nat.min_eq_left h

theorem satInc_eq_serialAfter {u : Nat} (h : u ≤ 4294967295) : satInc u = serialAfter u 1 := by
  rw [satInc, maxCount, serialAfter]
  split <;> omega

theorem serialAfter_serialAfter (u j : Nat) : serialAfter (serialAfter u 1) j = serialAfter u (j + 1) := by
  rw [serialAfter, serialAfter, serialAfter]
  omega

theorem modify_eq_set_of_getElem? {α : Type} (f : α → α) {l : List α} {n : Nat} {x : α} (h : l[n]? = some x) :
    l.modify n f = l.set n (f x) := by
  rw [List.modify_eq_set_getElem?, h]
  rfl

/-- A record of segment `i + 1` is appended: the segment takes the next serial, and its line joins the output list. -/
theorem ArchiveWriter.appendRecord_succ {w : ArchiveWriter} {a : Area} {i : Nat} {x : Segment}
    (harea : w.area = some a) (hx : w.segments[i]? = some x) :
    w.appendRecord (i + 1)
      = { w with
          segments := w.segments.set i { x with updateSerial := satInc w.updateSerial }
          updateSerial := satInc w.updateSerial
          out := w.out ++ [.directory (a.base + 64 * (i + 1)) (directoryRecord (i + 1) x (satInc w.updateSerial))
            (.directoryRecord (i + 1) x.state)] } := by
  simp only [ArchiveWriter.appendRecord, harea, segment_succ, hx, modifySegment_succ,
    modify_eq_set_of_getElem? _ hx]

/-- The directory line that rewrites segment `i + 1` with a serial. -/
def rewrittenLine (a : Area) (segments : List Segment) (serial i : Nat) : List ArchiveOut :=
  segments[i]?.toList.map fun x =>
    .directory (a.base + 64 * (i + 1)) (directoryRecord (i + 1) x serial) (.directoryRecord (i + 1) x.state)

/-- The Archive Writer once the records of the segments `is`, counted from 0, have been rewritten in order. -/
def ArchiveWriter.rewrite (w : ArchiveWriter) (a : Area) (is : List Nat) : ArchiveWriter :=
  { w with
    segments := w.segments.zipIdx.map fun (x, i) =>
      match is.idxOf? i with
      | some j => { x with updateSerial := serialAfter w.updateSerial (j + 1) }
      | none => x
    updateSerial := serialAfter w.updateSerial is.length
    out := w.out ++ is.zipIdx.flatMap fun (i, j) =>
      rewrittenLine a w.segments (serialAfter w.updateSerial (j + 1)) i }

theorem ArchiveWriter.rewrite_nil {w : ArchiveWriter} (a : Area) (hserial : w.updateSerial ≤ 4294967295) :
    w.rewrite a [] = w := by
  simp only [ArchiveWriter.rewrite, List.idxOf?_nil, List.length_nil, serialAfter_zero hserial, List.zipIdx_nil,
    List.flatMap_nil, List.append_nil]
  have hfst : (w.segments.zipIdx.map fun x => x.1) = w.segments := List.zipIdx_map_fst 0 w.segments
  rw [hfst]

/-- The entry of one segment after the rewriting of a list of others and of it. -/
theorem ArchiveWriter.rewrite_cons {w : ArchiveWriter} {a : Area} {i : Nat} {is : List Nat} {x : Segment}
    (hserial : w.updateSerial ≤ 4294967295) (hx : w.segments[i]? = some x) (hi : i ∉ is) :
    ArchiveWriter.rewrite
        { w with
          segments := w.segments.set i { x with updateSerial := satInc w.updateSerial }
          updateSerial := satInc w.updateSerial
          out := w.out ++ [.directory (a.base + 64 * (i + 1)) (directoryRecord (i + 1) x (satInc w.updateSerial))
            (.directoryRecord (i + 1) x.state)] } a is
      = w.rewrite a (i :: is) := by
  have hnone : is.idxOf? i = none := List.idxOf?_eq_none_iff.mpr hi
  have hsegments : ((w.segments.set i { x with updateSerial := serialAfter w.updateSerial 1 }).zipIdx.map fun (x, m) =>
        match is.idxOf? m with
        | some j => { x with updateSerial := serialAfter w.updateSerial (j + 1 + 1) }
        | none => x)
      = w.segments.zipIdx.map fun (x, m) =>
        match (i :: is).idxOf? m with
        | some j => { x with updateSerial := serialAfter w.updateSerial (j + 1) }
        | none => x := by
    refine List.ext_getElem? fun m => ?_
    simp only [List.getElem?_map, List.getElem?_zipIdx, List.getElem?_set, List.idxOf?_cons]
    by_cases him : i = m
    · subst him
      obtain ⟨hlt, rfl⟩ := List.getElem?_eq_some_iff.mp hx
      simp [hlt, hnone]
    · cases w.segments[m]? with
      | none => simp [him]
      | some y => cases hm : is.idxOf? m <;> simp [him, hm]
  have hout : (is.zipIdx.flatMap fun (m, j) =>
        rewrittenLine a (w.segments.set i { x with updateSerial := serialAfter w.updateSerial 1 })
          (serialAfter w.updateSerial (j + 1 + 1)) m)
      = (is.zipIdx 1).flatMap fun (m, j) => rewrittenLine a w.segments (serialAfter w.updateSerial (j + 1)) m := by
    rw [List.zipIdx_succ, List.flatMap_map]
    refine List.flatMap_congr fun ⟨m, j⟩ hmem => ?_
    have hm : m ∈ is := (List.mem_zipIdx' hmem).2 ▸ List.getElem_mem _
    have him : i ≠ m := fun h => hi (h ▸ hm)
    simp only [rewrittenLine, List.getElem?_set_ne him]
  simp only [ArchiveWriter.rewrite, satInc_eq_serialAfter hserial, serialAfter_serialAfter, List.length_cons]
  rw [hsegments, hout, List.zipIdx_cons, List.flatMap_cons, List.append_assoc, rewrittenLine, hx]
  rfl

/-- Rewriting different segments in order gives each its own serial and its own line. -/
theorem ArchiveWriter.foldl_appendRecord_eq {w : ArchiveWriter} {a : Area} {is : List Nat} (harea : w.area = some a)
    (hserial : w.updateSerial ≤ 4294967295) (hnodup : is.Nodup) (hin : ∀ i ∈ is, i < w.segments.length) :
    is.foldl (fun v i => v.appendRecord (i + 1)) w = w.rewrite a is := by
  induction is generalizing w with
  | nil => exact (ArchiveWriter.rewrite_nil a hserial).symm
  | cons i is ih =>
    obtain ⟨hi, hnodup⟩ := List.nodup_cons.mp hnodup
    obtain ⟨hlt, hin⟩ := List.forall_mem_cons.mp hin
    have hx : w.segments[i]? = some w.segments[i] := List.getElem?_eq_getElem hlt
    rw [List.foldl_cons, ArchiveWriter.appendRecord_succ harea hx, ← ArchiveWriter.rewrite_cons hserial hx hi]
    refine ih harea ?_ hnodup fun m hm => ?_
    · show satInc w.updateSerial ≤ _
      rw [satInc_eq_serialAfter hserial]
      exact Nat.min_le_right _ _
    · show m < (List.set _ _ _).length
      rw [List.length_set]
      exact hin m hm

/-- The space warning with an area (R108). -/
theorem ArchiveWriter.evaluateWarning_of_area {w : ArchiveWriter} {a : Area} (harea : w.area = some a) :
    w.evaluateWarning
      = { w with
          warning := if w.warning then decide (w.freeCount < a.high) else decide (w.freeCount ≤ a.low) } := by
  simp only [ArchiveWriter.evaluateWarning, harea]
  congr 1
  split
  · rw [← decide_not, decide_eq_decide]
    exact Nat.not_le
  · rfl

/-! ### SetArchive (R97) -/

theorem zipIdx_range (n : Nat) : (List.range n).zipIdx = (List.range n).map fun i => (i, i) :=
  List.ext_getElem (by simp) fun i _ _ => by simp

/-- The records of a new area: every data segment FREE with the serial of its record. -/
theorem ArchiveWriter.configure_eq (w : ArchiveWriter) {a : Area} (hcount : 2 ≤ a.count ∧ a.count ≤ 256)
    (hmarks : a.low < a.high ∧ a.high ≤ a.count - 1) :
    w.configure a
      = { w with
          area := some a
          segments := (List.range (a.count - 1)).map fun i => { Segment.fresh with updateSerial := i + 1 }
          full := false
          warning := false
          updateSerial := a.count - 1
          out := w.out ++ [.directory a.base (directoryHeader a) .directoryHeader]
            ++ (List.range (a.count - 1)).map fun i =>
              .directory (a.base + 64 * (i + 1)) (directoryRecord (i + 1) Segment.fresh (i + 1))
                (.directoryRecord (i + 1) .free) } := by
  have hserial : ∀ j, j ≤ a.count - 1 → serialAfter 0 j = j := fun j hj => by
    rw [serialAfter]
    omega
  have hidx : ∀ i, i < a.count - 1 → (List.range (a.count - 1)).idxOf? i = some i := fun i hi => by
    refine List.idxOf?_eq_some_iff.mpr ⟨by simpa using hi, by simp, fun j hj => ?_⟩
    rw [List.getElem_range]
    exact Nat.ne_of_lt hj
  rw [ArchiveWriter.configure, ArchiveWriter.foldl_appendRecord_eq (a := a) rfl (Nat.zero_le _) List.nodup_range
    (by simp [ArchiveWriter.appendHeader])]
  have hsegments : ((List.replicate (a.count - 1) Segment.fresh).zipIdx.map fun (x, i) =>
        match (List.range (a.count - 1)).idxOf? i with
        | some j => { x with updateSerial := serialAfter 0 (j + 1) }
        | none => x)
      = (List.range (a.count - 1)).map fun i => { Segment.fresh with updateSerial := i + 1 } := by
    refine List.ext_getElem? fun i => ?_
    rcases Nat.lt_or_ge i (a.count - 1) with hi | hi
    · simp [hi, hidx i hi, hserial (i + 1) hi]
    · simp [Nat.not_lt.mpr hi]
  have hlines : ((List.range (a.count - 1)).zipIdx.flatMap fun (i, j) =>
        rewrittenLine a (List.replicate (a.count - 1) Segment.fresh) (serialAfter 0 (j + 1)) i)
      = (List.range (a.count - 1)).map fun i =>
        .directory (a.base + 64 * (i + 1)) (directoryRecord (i + 1) Segment.fresh (i + 1))
          (.directoryRecord (i + 1) .free) := by
    rw [zipIdx_range, List.flatMap_map, List.map_eq_flatMap]
    refine List.flatMap_congr fun i hi => ?_
    have hlt : i < a.count - 1 := List.mem_range.mp hi
    simp only [rewrittenLine, List.getElem?_replicate, hlt, if_true, hserial (i + 1) hlt]
    rfl
  have hfree : ∀ (v : ArchiveWriter), v.area = some a → v.warning = false
      → v.segments = (List.range (a.count - 1)).map (fun i => { Segment.fresh with updateSerial := i + 1 })
      → v.evaluateWarning = v := by
    intro v harea hwarning hv
    have hfreeCount : v.freeCount = a.count - 1 := by
      rw [ArchiveWriter.freeCount, hv, List.countP_map]
      exact (List.countP_eq_length.mpr fun _ _ => rfl).trans List.length_range
    have hlow : decide (v.freeCount ≤ a.low) = false := decide_eq_false (by omega)
    rw [ArchiveWriter.evaluateWarning_of_area harea, hlow, hwarning, if_neg Bool.false_ne_true, ← hwarning]
  rw [hfree _ rfl rfl hsegments]
  simp only [ArchiveWriter.rewrite, ArchiveWriter.appendHeader, List.length_range, hserial _ (Nat.le_refl _)]
  rw [← hsegments, ← hlines]

/-- The checks of R97 in order, and the area with its directory lines. -/
theorem State.execute_setArchive {s : State} (hw : s.cmd.working ≠ none) (b : ArchiveBody) :
    s.execute (fun x => x.setArchive b)
      = if s.sess.state ≠ .idle then refused s .notIdle
        else if ∃ x ∈ s.aw.segments, x.state ≠ .free then refused s .notEmpty
        else if b.sizeMiB.toNat ∉ [1, 2, 4, 8, 16, 32, 64] then refused s .badValue
        else if b.count.toNat < 2 ∨ 256 < b.count.toNat then refused s .badValue
        else if b.base.toNat % (b.sizeMiB.toNat * 1048576) ≠ 0 then refused s .badValue
        else if 2 ^ 40 < b.base.toNat + b.count.toNat * (b.sizeMiB.toNat * 1048576) then refused s .badValue
        else if Overlap ⟨b.base.toNat, b.count.toNat * (b.sizeMiB.toNat * 1048576)⟩
            ⟨s.straps.baseSel.toNat * 16777216, 2048⟩ then refused s .overlap
        else if b.high.toNat ≤ b.low.toNat ∨ b.count.toNat ≤ b.high.toNat then refused s .badValue
        else
          done
            (s.setAw
              { s.aw with
                area := some (areaOf b)
                segments := (List.range (b.count.toNat - 1)).map fun i => { Segment.fresh with updateSerial := i + 1 }
                full := false
                warning := false
                updateSerial := b.count.toNat - 1
                out := s.aw.out ++ [.directory b.base.toNat (directoryHeader (areaOf b)) .directoryHeader]
                  ++ (List.range (b.count.toNat - 1)).map fun i =>
                    .directory (b.base.toNat + 64 * (i + 1)) (directoryRecord (i + 1) Segment.fresh (i + 1))
                      (.directoryRecord (i + 1) .free) })
            [] := by
  have hfree : (s.aw.segments.all fun x => x.state == .free) = true ↔ ¬ ∃ x ∈ s.aw.segments, x.state ≠ .free := by
    simp [List.all_eq_true]
  have hsize : isSegmentSize b.sizeMiB.toNat = true ↔ ¬ b.sizeMiB.toNat ∉ [1, 2, 4, 8, 16, 32, 64] := by
    rw [not_not]
    simp [isSegmentSize, or_assoc]
  have hoverlap : (!(areaOf b).region.overlaps s.straps.commandArea) = true
      ↔ ¬ Overlap ⟨b.base.toNat, b.count.toNat * (b.sizeMiB.toNat * 1048576)⟩
        ⟨s.straps.baseSel.toNat * 16777216, 2048⟩ := by
    rw [Bool.not_eq_true', ← Bool.not_eq_true, Region.overlaps_iff]
    rfl
  refine State.answer_checked_cons hw s.isIdle_iff _ ?_
  refine State.answer_checked_cons hw hfree _ ?_
  refine State.answer_checked_cons hw hsize _ ?_
  refine State.answer_checked_cons_of_not hw ?_ _ fun hcount => ?_
  · rw [decide_eq_true_iff, not_or, Nat.not_lt, Nat.not_lt]
    rfl
  refine State.answer_checked_cons hw ?_ _ ?_
  · rw [beq_iff_eq, ne_eq, not_not]
    rfl
  refine State.answer_checked_cons hw ?_ _ ?_
  · rw [decide_eq_true_iff, Nat.not_lt]
    rfl
  refine State.answer_checked_cons hw hoverlap _ ?_
  refine State.answer_checked_cons_of_not hw ?_ _ fun hmarks => ?_
  · rw [decide_eq_true_iff]
    show b.low.toNat < b.high.toNat ∧ b.high.toNat ≤ b.count.toNat - 1 ↔ _
    omega
  have hcount' : 2 ≤ (areaOf b).count ∧ (areaOf b).count ≤ 256 := by
    show 2 ≤ b.count.toNat ∧ b.count.toNat ≤ 256
    omega
  have hmarks' : (areaOf b).low < (areaOf b).high ∧ (areaOf b).high ≤ (areaOf b).count - 1 := by
    show b.low.toNat < b.high.toNat ∧ b.high.toNat ≤ b.count.toNat - 1
    omega
  rw [ArchiveWriter.configure_eq s.aw hcount' hmarks']
  exact State.answer_checked_nil hw (s.setAw_cmd _) []

/-- Settles O24: the directory lines byte by byte; the take, the checks of R97, and the new area. -/
theorem setArchiveResult : Obligations.SetArchiveResult := by
  unfold Obligations.SetArchiveResult
  refine ⟨directoryHeader_eq, directoryRecord_eq, ?_⟩
  intro s seq b hreach u a slot fresh
  have hrun := State.execute_setArchive (taken_working s seq .setArchive) b
  rw [taken_sess, taken_aw, taken_straps] at hrun
  exact congrArg Host.Outcome.next ((State.takeFunction_of_reaches hreach _ _).trans hrun)

/-! ### ReleaseSegment (R106, R108) -/

/-- The record of the space warning, filed (R108). -/
theorem fileAll_warningRecords {w : ArchiveWriter} {a : Area} (harea : w.area = some a) (newest : Option Nat) (v : ReportWriter) :
    filedAll v (w.warningRecords newest)
      = if w.warning = true ∧ a.high ≤ w.freeCount then filed v ⟨.spaceOk, a.count, newest, w.freeCount, a.high⟩
        else if w.warning = false ∧ w.freeCount ≤ a.low then filed v ⟨.spaceLow, a.count, newest, w.freeCount, a.low⟩
        else v := by
  simp only [ArchiveWriter.warningRecords, harea]
  cases w.warning with
  | true =>
    by_cases h : a.high ≤ w.freeCount
    · simp [h, filedAll]
    · simp [h, filedAll]
  | false =>
    by_cases h : w.freeCount ≤ a.low
    · simp [h, filedAll]
    · simp [h, filedAll]

/-- A segment returns to FREE, and its record takes the next serial (R106). -/
theorem ArchiveWriter.freeAt_succ {w : ArchiveWriter} {a : Area} {i : Nat} {x : Segment} (harea : w.area = some a)
    (hx : w.segments[i]? = some x) :
    w.freeAt (i + 1)
      = { w with
          segments := w.segments.set i { Segment.fresh with updateSerial := satInc w.updateSerial }
          updateSerial := satInc w.updateSerial
          out := w.out ++ [.directory (a.base + 64 * (i + 1))
            (directoryRecord (i + 1) Segment.fresh (satInc w.updateSerial)) (.directoryRecord (i + 1) .free)] } := by
  have hlt : i < w.segments.length := (List.getElem?_eq_some_iff.mp hx).1
  have happend := ArchiveWriter.appendRecord_succ
    (w := { w with segments := w.segments.set i { Segment.fresh with updateSerial := x.updateSerial } }) harea
    (List.getElem?_set_self hlt)
  rw [ArchiveWriter.freeAt, modifySegment_succ, modify_eq_set_of_getElem? _ hx]
  refine happend.trans ?_
  rw [List.set_set, directoryRecord_updateSerial]
  rfl

/-- Freeing a CLOSED segment leaves one FREE segment more. -/
theorem ArchiveWriter.freeCount_set {l : List Segment} {i : Nat} {x : Segment} (hx : l[i]? = some x)
    (hstate : x.state = .closed) (serial : Nat) :
    (l.set i { Segment.fresh with updateSerial := serial }).countP (fun y => y.state == .free)
      = (l.filter fun y => y.state == .free).length + 1 := by
  have hcount := countP_modify_add (fun y : Segment => y.state == .free)
    (fun _ => { Segment.fresh with updateSerial := serial }) hx
  rw [modify_eq_set_of_getElem? _ hx, hstate] at hcount
  rw [← List.countP_eq_length_filter]
  exact hcount

/-- The checks of R106 in order, and the segment freed. -/
theorem State.execute_releaseSegment {s : State} (hw : s.cmd.working ≠ none) (n : Nat) :
    s.execute (fun x => x.releaseSegment n)
      = if s.aw.area = none then refused s .notConfigured
        else if (s.aw.area.map fun a => a.count).getD 0 ≤ n then refused s .badValue
        else if s.aw.isReleasable n = false then refused s .notClosed
        else
          done ((s.setAw (s.aw.freeAt n).evaluateWarning).fileAll ((s.aw.freeAt n).warningRecords s.ft.newest)) [] := by
  refine State.answer_checked_cons hw ?_ _ ?_
  · rw [Option.isSome_iff_ne_none]
  refine State.answer_checked_cons hw ?_ _ ?_
  · rw [decide_eq_true_iff, Nat.not_le]
  refine State.answer_checked_cons hw (by rw [Bool.not_eq_false]) _ ?_
  have hcmd : ((s.setAw (s.aw.freeAt n).evaluateWarning).fileAll
    ((s.aw.freeAt n).warningRecords s.ft.newest)).cmd = s.cmd := rfl
  exact State.answer_checked_nil hw hcmd []

/-- A settled CLOSED data segment (R106, check 3). -/
theorem ArchiveWriter.isReleasable_succ (w : ArchiveWriter) (i : Nat) :
    w.isReleasable (i + 1) = true ↔ ∃ x, w.segments[i]? = some x ∧ x.state = .closed ∧ x.settled = true := by
  simp only [ArchiveWriter.isReleasable, segment_succ]
  cases w.segments[i]? <;> simp

/-- Settles O25: the take, the checks of R106, the FREE segment and the space warning. -/
theorem releaseSegmentResult : Obligations.ReleaseSegmentResult := by
  unfold Obligations.ReleaseSegmentResult
  intro s seq n hreach u
  have hrun := State.execute_releaseSegment (taken_working s seq .releaseSegment) n.toNat
  rw [taken_aw, taken_ft] at hrun
  have hexec : exec (.releaseSegment seq n) s = .next _ :=
    congrArg Host.Outcome.next ((State.takeFunction_of_reaches hreach _ _).trans hrun)
  have hzero : n = 0 ↔ n.toNat = 0 := BitVec.toNat_eq
  refine ⟨fun hnone => by rw [hexec, if_pos hnone], fun a harea htable => ?_⟩
  have hcount : (s.aw.area.map fun a => a.count).getD 0 = a.count := by rw [harea]; rfl
  rw [if_neg (by rw [harea]; exact Option.some_ne_none a), hcount] at hexec
  refine ⟨fun hlarge => by rw [hexec, if_pos hlarge], fun hsmall hbad => ?_, fun x hn hx hclosed hsettled => ?_⟩
  · have hnot : s.aw.isReleasable n.toNat = false := by
      rw [← Bool.not_eq_true]
      intro hgood
      cases hi : n.toNat with
      | zero =>
        rw [hi] at hgood
        exact absurd hgood Bool.false_ne_true
      | succ i =>
        rw [hi, ArchiveWriter.isReleasable_succ] at hgood
        obtain ⟨x, hx, hclosed, hsettled⟩ := hgood
        rcases hbad with hbad | ⟨y, hy, hstate⟩
        · exact absurd (hzero.mp hbad) (by omega)
        · rw [hi, Nat.add_sub_cancel, hx] at hy
          obtain rfl := Option.some.inj hy
          exact hstate.elim (absurd hclosed) fun h => Bool.false_ne_true (h.symm.trans hsettled)
    rw [hexec, if_neg (Nat.not_le.mpr hsmall), if_pos hnot]
  · obtain ⟨i, hi⟩ := Nat.exists_eq_succ_of_ne_zero (mt hzero.mpr hn)
    have hpred : n.toNat - 1 = i := by omega
    rw [hpred] at hx ⊢
    have hlt : i < s.aw.segments.length := (List.getElem?_eq_some_iff.mp hx).1
    have hgood : ¬ s.aw.isReleasable n.toNat = false := by
      rw [Bool.not_eq_false, hi, ArchiveWriter.isReleasable_succ]
      exact ⟨x, hx, hclosed, hsettled⟩
    have hfree := ArchiveWriter.freeAt_succ harea hx
    have hfreeArea : (s.aw.freeAt (i + 1)).area = some a := by rw [hfree]; exact harea
    have hfreeCount : (s.aw.freeAt (i + 1)).freeCount
        = (s.aw.segments.filter fun y => y.state == .free).length + 1 := by
      rw [hfree]
      exact ArchiveWriter.freeCount_set hx hclosed _
    rw [hexec, if_neg (by omega), if_neg hgood, hi, State.fileAll_eq_filedAll,
      fileAll_warningRecords hfreeArea, ArchiveWriter.evaluateWarning_of_area hfreeArea, hfreeCount, hfree]
    simp only [State.setAw_rw, taken_rw]
    rfl

end Sys2Proof.Machine
end

section
/-! LoadWindows and LoadTracks (R6, R27): the entries of a body read back from its bytes, the checks in order, and the
tables that are replaced. -/

namespace Sys2Proof.Machine

open Sys2Proof.Spec

/-! ### Fields of a body (R172) -/

theorem fieldAt_leBytes_append (n x : Nat) (rest : List Byte) : fieldAt (leBytes n x ++ rest) 0 n = x % 256 ^ n := by
  rw [fieldAt, List.drop_zero, List.take_left' (leBytes_length n x), leValue_leBytes]

theorem fieldAt_append_skip {front : List Byte} {offset : Nat} (h : front.length ≤ offset) (rest : List Byte)
    (size : Nat) : fieldAt (front ++ rest) offset size = fieldAt rest (offset - front.length) size := by
  rw [fieldAt, fieldAt, List.drop_append, List.drop_of_length_le h, List.nil_append]

theorem fieldAt_leBytes_skip {n offset : Nat} (h : n ≤ offset) (x : Nat) (rest : List Byte) (size : Nat) :
    fieldAt (leBytes n x ++ rest) offset size = fieldAt rest (offset - n) size := by
  rw [fieldAt_append_skip (by rwa [leBytes_length]), leBytes_length]

/-- Entries of one size, cut out of their joined items. -/
theorem drop_flatMap_of_length {α β : Type} {f : α → List β} {size : Nat} {es : List α}
    (h : ∀ e ∈ es, (f e).length = size) {k : Nat} (hk : k < es.length) :
    ((es.flatMap f).drop (size * k)).take size = f es[k] := by
  induction es generalizing k with
  | nil => exact absurd hk (Nat.not_lt_zero k)
  | cons e es ih =>
    obtain ⟨he, hes⟩ := List.forall_mem_cons.mp h
    cases k with
    | zero => rw [Nat.mul_zero, List.drop_zero, List.flatMap_cons, List.take_left' he, List.getElem_cons_zero]
    | succ k =>
      rw [List.flatMap_cons, List.drop_append, he, List.drop_of_length_le (by rw [he]; exact Nat.le_mul_of_pos_right _ k.succ_pos),
        List.nil_append, Nat.mul_succ, Nat.add_sub_cancel, List.getElem_cons_succ]
      exact ih hes (Nat.lt_of_succ_lt_succ hk)

/-- The entries of a counted body, cut out of its bytes. -/
theorem bodyEntries_counted {α : Type} {f : α → List Byte} {size : Nat} {es : List α}
    (h : ∀ e ∈ es, (f e).length = size) (hcount : es.length < 256) :
    let body := leBytes 4 es.length ++ es.flatMap f
    fieldAt body 0 1 = es.length ∧ body.length = 4 + size * es.length
      ∧ bodyEntries body size (fieldAt body 0 1) = es.map f := by
  intro body
  have hfield : fieldAt body 0 1 = es.length := by
    rw [fieldAt_one]
    show (BitVec.ofNat 8 es.length).toNat = _
    rw [BitVec.toNat_ofNat]
    exact Nat.mod_eq_of_lt hcount
  refine ⟨hfield, ?_, ?_⟩
  · rw [List.length_append, leBytes_length, flatMap_length f size es h, Nat.mul_comm]
  · rw [hfield]
    refine List.ext_getElem (by simp [bodyEntries]) fun k hk _ => ?_
    have hk' : k < es.length := by simpa [bodyEntries] using hk
    simp only [bodyEntries, List.getElem_map, List.getElem_range]
    rw [List.drop_append, leBytes_length, List.drop_of_length_le (by rw [leBytes_length]; omega), List.nil_append,
      Nat.add_sub_cancel_left, drop_flatMap_of_length h hk']

/-! ### LoadWindows (R6) -/

/-- The 24 bytes of a LoadWindows entry (R172). -/
def WindowEntry.bytes (e : WindowEntry) : List Byte :=
  leBytes 1 e.window ++ leBytes 1 e.lanes ++ leBytes 1 e.slots ++ leBytes 1 e.format
    ++ leBytes 1 (if e.mirrorFlag then 1 else 0) ++ leBytes 1 e.liveLimit ++ leBytes 2 0 ++ leBytes 8 e.base
    ++ leBytes 8 e.mirrorBase

theorem WindowEntry.bytes_length (e : WindowEntry) : e.bytes.length = 24 := by
  simp [WindowEntry.bytes]

theorem windowEntry_bytes {e : WindowEntry} (h : windowEntryFits e) : windowEntry e.bytes = e := by
  obtain ⟨hwindow, hlanes, hslots, hformat, hlive, hbase, hmirror⟩ := h
  have hlast : leBytes 8 e.mirrorBase = leBytes 8 e.mirrorBase ++ [] := (List.append_nil _).symm
  have hflag : ((if e.mirrorFlag = true then 1 else 0) % 256 % 2 == 1) = e.mirrorFlag := by
    cases e.mirrorFlag <;> rfl
  rw [windowEntry, WindowEntry.bytes, hlast]
  simp only [List.append_assoc, fieldAt_leBytes_skip, Nat.reduceLeDiff, Nat.reduceSub, fieldAt_leBytes_append]
  rw [show (256 : Nat) ^ 1 = 256 from rfl, show (256 : Nat) ^ 8 = 2 ^ 64 from rfl, Nat.mod_eq_of_lt hwindow,
    Nat.mod_eq_of_lt hlanes, Nat.mod_eq_of_lt hslots, Nat.mod_eq_of_lt hformat, Nat.mod_eq_of_lt hlive,
    Nat.mod_eq_of_lt hbase, Nat.mod_eq_of_lt hmirror, hflag]

/-- The bytes of a LoadWindows body are read back as its entries. -/
theorem windowEntries_windowsBytes {es : List WindowEntry} (hfits : ∀ e ∈ es, windowEntryFits e)
    (hcount : es.length < 256) : windowEntries (windowsBytes es) = es := by
  obtain ⟨-, -, hentries⟩ := bodyEntries_counted (f := WindowEntry.bytes) (fun e _ => e.bytes_length) hcount
  rw [windowEntries]
  refine (congrArg (List.map windowEntry) hentries).trans ?_
  rw [List.map_map]
  exact (List.map_congr_left fun e he => windowEntry_bytes (hfits e he)).trans (List.map_id _)

/-- The length of a LoadWindows body, and the count it holds. -/
theorem windowsBytes_length {es : List WindowEntry} (hcount : es.length < 256) :
    (windowsBytes es).length = 4 + 24 * es.length ∧ ((windowsBytes es).getD 0 0).toNat = es.length := by
  obtain ⟨hfield, hlength, -⟩ := bodyEntries_counted (f := WindowEntry.bytes) (fun e _ => e.bytes_length) hcount
  exact ⟨hlength, (fieldAt_one _ 0).symm.trans hfield⟩

/-- Check 4 of R6, in the manual's terms. -/
theorem WindowEntry.isValid_iff (e : WindowEntry) : e.isValid = true ↔ windowEntryValid e := by
  simp only [WindowEntry.isValid, isPageAligned, pageSize, Bool.and_eq_true, Bool.or_eq_true, Bool.not_eq_true',
    decide_eq_true_eq, beq_iff_eq, and_assoc]
  cases hmirror : e.mirrorFlag <;> simp [hmirror, addressTop, WindowEntry.span]

theorem WindowEntry.record_eq (e : WindowEntry) : e.record = windowRecordOf e := by
  have hlimit : (if e.liveLimit = 0 then 1 else e.liveLimit) = max 1 e.liveLimit := by
    split <;> omega
  rw [WindowEntry.record, hlimit]
  rfl

/-- With one entry for each window, the entry found is the one there is. -/
theorem entryOf_eq_some_iff {es : List WindowEntry} (h : (es.map WindowEntry.window).Nodup) (w : Nat) (e : WindowEntry) :
    entryOf es w = some e ↔ e ∈ es ∧ e.window = w := by
  rw [entryOf]
  have hwindow : ∀ {e'}, es.find? (fun e => e.window == w) = some e' → e'.window = w := fun hfind =>
    beq_iff_eq.mp (List.find?_some (p := fun e : WindowEntry => e.window == w) hfind)
  refine ⟨fun hfind => ⟨List.mem_of_find?_eq_some hfind, hwindow hfind⟩, fun ⟨hmem, hw⟩ => ?_⟩
  obtain ⟨e', hfind⟩ : ∃ e', es.find? (fun e => e.window == w) = some e' :=
    Option.isSome_iff_exists.mp (List.find?_isSome.mpr ⟨e, hmem, beq_iff_eq.mpr hw⟩)
  rw [hfind, List.inj_on_of_nodup_map h (List.mem_of_find?_eq_some hfind) hmem ((hwindow hfind).trans hw.symm)]

/-- Check 6 of R6: a lane of a window of the new table. -/
theorem sourceFits_iff {es : List WindowEntry} (h : (es.map WindowEntry.window).Nodup) (p : Source) :
    sourceFits es p = true ↔ ∃ e ∈ es, e.window = p.window ∧ p.lane < e.lanes := by
  rw [sourceFits]
  cases hentry : entryOf es p.window with
  | none =>
    refine ⟨fun hfalse => absurd hfalse Bool.false_ne_true, fun ⟨e, he, hw, _⟩ => ?_⟩
    exact absurd (hentry.symm.trans ((entryOf_eq_some_iff h _ e).mpr ⟨he, hw⟩)) (Option.some_ne_none e).symm
  | some e =>
    obtain ⟨he, hw⟩ := (entryOf_eq_some_iff h _ e).mp hentry
    rw [decide_eq_true_iff]
    refine ⟨fun hlane => ⟨e, he, hw, hlane⟩, fun ⟨e', he', hw', hlane⟩ => ?_⟩
    rwa [Option.some.inj (hentry.symm.trans ((entryOf_eq_some_iff h _ e').mpr ⟨he', hw'⟩))]

theorem Track.fits_iff {es : List WindowEntry} (h : (es.map WindowEntry.window).Nodup) (x : Track) :
    x.fits es = true ↔ x.record.enabled = true →
      (∀ p ∈ x.record.primary, ∃ e ∈ es, e.window = p.window ∧ p.lane < e.lanes)
      ∧ ∀ p ∈ x.record.alternate, ∃ e ∈ es, e.window = p.window ∧ p.lane < e.lanes := by
  simp only [Track.fits, Bool.or_eq_true, Bool.and_eq_true, Bool.not_eq_true', Option.all_eq_true, sourceFits_iff h]
  cases x.record.enabled <;> simp

/-- The checks of R6 in order, and the window table. -/
theorem State.execute_loadWindows {s : State} (hw : s.cmd.working ≠ none) {body : List Byte} {es : List WindowEntry}
    (hbody : windowEntries body = es) :
    s.execute (runFunction .loadWindows body)
      = if s.sess.state ≠ .idle then refused s .notIdle
        else if s.sess.record = none then refused s .notConfigured
        else if 16 < es.length then refused s .capacity
        else if ¬ ∀ e ∈ es, windowEntryValid e then refused s .badValue
        else if ¬ (es.map WindowEntry.window).Nodup then refused s .duplicateEntry
        else if ¬ ∀ x ∈ s.tracks, x.record.enabled = true →
            (∀ p ∈ x.record.primary, ∃ e ∈ es, e.window = p.window ∧ p.lane < e.lanes)
              ∧ ∀ p ∈ x.record.alternate, ∃ e ∈ es, e.window = p.window ∧ p.lane < e.lanes then refused s .badValue
        else
          done
            (s.setSess
              { s.sess with
                windows := s.sess.windows.zipIdx.map fun (x, w) =>
                  { x with record := (es.find? fun e => e.window == w).map windowRecordOf } })
            [] := by
  subst hbody
  have hrecord : WindowEntry.record = windowRecordOf := funext WindowEntry.record_eq
  refine State.answer_checked_cons hw s.isIdle_iff _ ?_
  refine State.answer_checked_cons hw ?_ _ ?_
  · rw [Option.isSome_iff_ne_none]
  refine State.answer_checked_cons hw (by simp) _ ?_
  refine State.answer_checked_cons hw ?_ _ ?_
  · simp only [List.all_eq_true, WindowEntry.isValid_iff, not_not]
  refine State.answer_checked_cons_of_not hw ?_ _ fun hnodup => ?_
  · rw [noRepeats_iff, not_not]
  refine State.answer_checked_cons hw ?_ _ ?_
  · simp only [List.all_eq_true, Track.fits_iff (not_not.mp hnodup), not_not]
  rw [replaceWindows_eq, hrecord]
  exact State.answer_checked_nil hw (s.setSess_cmd _) []

/-- A table whose bytes fit one packet runs where no sequence is open. -/
theorem exec_only_table {s : State} {seq : Byte} {fn : Function} {body : List Byte} (hsettled : Settled s)
    (htakes : Takes s seq) (hopen : s.cmd.openSequence = none) (hshort : body.length ≤ 1008)
    (hfits : lengthFits fn body = true) :
    s.takeTable seq fn .only body = (taken s seq fn).execute (runFunction fn body) := by
  rw [State.takeTable_of_takes hsettled htakes, if_neg (Nat.not_lt.mpr hshort),
    State.takePart_only_fits ((taken_openSequence s seq fn).trans hopen) hfits]

/-- A table that a LAST part completes runs with no sequence open. -/
theorem exec_last_table {s : State} {seq : Byte} {fn : Function} {parts : Nat} {staged body : List Byte}
    (hsettled : Settled s) (htakes : Takes s seq) (hopen : s.cmd.openSequence = some ⟨fn, parts, staged⟩)
    (hshort : body.length ≤ 1008) (hlimit : (staged ++ body).length ≤ 4096)
    (hfits : lengthFits fn (staged ++ body) = true) :
    s.takeTable seq fn .last body
      = (taken { s with cmd := { s.cmd with openSequence := none } } seq fn).execute
          (runFunction fn (staged ++ body)) := by
  have hclosed : (taken s seq fn).endSequence = taken { s with cmd := { s.cmd with openSequence := none } } seq fn :=
    (takenWith_withSequence s seq _ none).symm
  rw [State.takeTable_of_takes hsettled htakes, if_neg (Nat.not_lt.mpr hshort),
    State.takePart_last_same ((taken_openSequence s seq fn).trans hopen) rfl, if_pos ⟨hlimit, hfits⟩, hclosed]

/-- Settles O15: the body read back, the checks of R6, and the window table replaced. -/
theorem loadWindowsResult : Obligations.LoadWindowsResult := by
  unfold Obligations.LoadWindowsResult
  intro s seq es hsettled htakes hentries fits result
  have hfits : es.length < 256 → lengthFits .loadWindows (windowsBytes es) = true := by
    intro hcount
    obtain ⟨hlength, hfield⟩ := windowsBytes_length hcount
    rw [lengthFits_table_iff (.inl rfl), hfield, hlength]
    exact ⟨List.ne_nil_of_length_pos (by omega), rfl⟩
  have hresult : ∀ c : State, c.sess = s.sess → c.tracks = s.tracks → es.length < 256 →
      (taken c seq .loadWindows).execute (runFunction .loadWindows (windowsBytes es))
        = result (taken c seq .loadWindows) := by
    intro c hsess htracks hcount
    have hrun := State.execute_loadWindows (taken_working c seq .loadWindows)
      (windowEntries_windowsBytes hentries hcount)
    rw [taken_sess, taken_tracks, hsess, htracks] at hrun
    exact hrun
  refine ⟨fun hopen hshort => ?_, fun parts staged body hopen hshort hcount htable => ?_⟩
  · have hlength := (windowsBytes_length (es := es) (by omega)).1
    refine congrArg Host.Outcome.next ?_
    rw [← hresult s rfl rfl (by omega)]
    exact exec_only_table hsettled htakes hopen (by omega) (hfits (by omega))
  · have hlength := (windowsBytes_length (es := es) (by omega)).1
    refine congrArg Host.Outcome.next ?_
    rw [← hresult { s with cmd := { s.cmd with openSequence := none } } rfl rfl (by omega), ← htable]
    refine exec_last_table hsettled htakes hopen hshort (by rw [htable]; omega) ?_
    rw [htable]
    exact hfits (by omega)

/-! ### LoadTracks (R27) -/

/-- The 12 bytes of a LoadTracks entry (R172). -/
def TrackEntry.bytes (e : TrackEntry) : List Byte :=
  leBytes 1 e.track ++ leBytes 1 e.enabled ++ leBytes 1 e.primary.window ++ leBytes 1 e.primary.lane
    ++ leBytes 1 e.alternateFlag ++ leBytes 1 e.alternate.window ++ leBytes 1 e.alternate.lane
    ++ leBytes 1 e.compare ++ leBytes 1 e.lossLimit ++ leBytes 3 0

theorem TrackEntry.bytes_length (e : TrackEntry) : e.bytes.length = 12 := by
  simp [TrackEntry.bytes]

theorem trackEntryOf_bytes {e : TrackEntry} (h : trackEntryFits e) : trackEntryOf e.bytes = e := by
  obtain ⟨htrack, henabled, hwindow, hlane, hflag, hwindow', hlane', hcompare, hloss⟩ := h
  rw [trackEntryOf, TrackEntry.bytes]
  simp only [List.append_assoc, fieldAt_leBytes_skip, Nat.reduceLeDiff, Nat.reduceSub, fieldAt_leBytes_append]
  rw [show (256 : Nat) ^ 1 = 256 from rfl, Nat.mod_eq_of_lt htrack, Nat.mod_eq_of_lt henabled,
    Nat.mod_eq_of_lt hwindow, Nat.mod_eq_of_lt hlane, Nat.mod_eq_of_lt hflag, Nat.mod_eq_of_lt hwindow',
    Nat.mod_eq_of_lt hlane', Nat.mod_eq_of_lt hcompare, Nat.mod_eq_of_lt hloss]

/-- The bytes of a LoadTracks body are read back as its entries. -/
theorem trackEntries_tracksBytes {es : List TrackEntry} (hfits : ∀ e ∈ es, trackEntryFits e)
    (hcount : es.length < 256) : trackEntries (tracksBytes es) = es := by
  obtain ⟨-, -, hentries⟩ := bodyEntries_counted (f := TrackEntry.bytes) (fun e _ => e.bytes_length) hcount
  rw [trackEntries]
  refine (congrArg (List.map trackEntryOf) hentries).trans ?_
  rw [List.map_map]
  exact (List.map_congr_left fun e he => trackEntryOf_bytes (hfits e he)).trans (List.map_id _)

/-- The length of a LoadTracks body, and the count it holds. -/
theorem tracksBytes_length {es : List TrackEntry} (hcount : es.length < 256) :
    (tracksBytes es).length = 4 + 12 * es.length ∧ ((tracksBytes es).getD 0 0).toNat = es.length := by
  obtain ⟨hfield, hlength, -⟩ := bodyEntries_counted (f := TrackEntry.bytes) (fun e _ => e.bytes_length) hcount
  exact ⟨hlength, (fieldAt_one _ 0).symm.trans hfield⟩

theorem SessionControl.hasLane_iff (s : State) (p : Source) : s.sess.hasLane p = true ↔ laneLoaded s p := by
  rw [SessionControl.hasLane]
  cases hrecord : (s.sess.window p.window).record <;> simp [laneLoaded, hrecord]

/-- Check 3 of R27, in the manual's terms. -/
theorem TrackEntry.isValid_iff (s : State) (e : TrackEntry) : e.isValid s.sess = true ↔ trackEntryValid s e := by
  simp only [TrackEntry.isValid, isFlag, Bool.and_eq_true, Bool.or_eq_true, decide_eq_true_eq, beq_iff_eq,
    SessionControl.hasLane_iff, and_assoc]
  refine and_congr_right fun _ => and_congr_right fun henabled => and_congr_right fun halternate =>
    and_congr_right fun _ => ?_
  have hdisabled : e.enabled = 0 ↔ ¬ e.enabled = 1 := by omega
  have habsent : e.alternateFlag = 0 ↔ ¬ e.alternateFlag = 1 := by omega
  rw [hdisabled, habsent, ← imp_iff_not_or, ← imp_iff_not_or]

theorem sources_eq (es : List TrackEntry) : es.flatMap TrackEntry.sources = sourcesOf es := by
  refine List.flatMap_congr fun e _ => ?_
  rw [TrackEntry.sources]
  split
  · split <;> rfl
  · rfl

theorem TrackEntry.record_eq (e : TrackEntry) : e.record = trackRecordOf e := by
  have hlimit : (if e.lossLimit = 0 then 1 else e.lossLimit) = max 1 e.lossLimit := by
    split <;> omega
  rw [TrackEntry.record, hlimit]
  rfl

/-- The checks of R27 in order, and the Track Table. -/
theorem State.execute_loadTracks {s : State} (hw : s.cmd.working ≠ none) {body : List Byte} {es : List TrackEntry}
    (hbody : trackEntries body = es) :
    s.execute (runFunction .loadTracks body)
      = if s.sess.state ≠ .idle then refused s .notIdle
        else if 128 < es.length then refused s .capacity
        else if ¬ ∀ e ∈ es, trackEntryValid s e then refused s .badValue
        else if ¬ (es.map TrackEntry.track).Nodup then refused s .duplicateEntry
        else if ¬ (sourcesOf es).Nodup then refused s .duplicateEntry
        else
          done
            (s.setTracks
              (s.tracks.zipIdx.map fun (x, t) =>
                { x with record := ((es.find? fun e => e.track == t).map trackRecordOf).getD TrackRecord.default }))
            [] := by
  subst hbody
  have hreplaced : ∀ l : List Track, replaceTracks (trackEntries body) 0 l
      = l.zipIdx.map fun (x, t) =>
        { x with
          record := (((trackEntries body).find? fun e => e.track == t).map trackRecordOf).getD TrackRecord.default } := by
    intro l
    rw [replaceTracks_eq]
    refine List.map_congr_left fun ⟨x, t⟩ _ => ?_
    cases hfind : (trackEntries body).find? fun e => e.track == t <;> simp [hfind, TrackEntry.record_eq]
  refine State.answer_checked_cons hw s.isIdle_iff _ ?_
  refine State.answer_checked_cons hw (by simp) _ ?_
  refine State.answer_checked_cons hw ?_ _ ?_
  · simp only [List.all_eq_true, TrackEntry.isValid_iff, not_not]
  refine State.answer_checked_cons hw ?_ _ ?_
  · rw [noRepeats_iff, not_not]
  refine State.answer_checked_cons hw ?_ _ ?_
  · rw [noRepeats_iff, sources_eq, not_not]
  rw [hreplaced]
  exact State.answer_checked_nil hw (s.setTracks_cmd _) []

/-- Settles O16: the body read back, the checks of R27, and the Track Table replaced. -/
theorem loadTracksResult : Obligations.LoadTracksResult := by
  unfold Obligations.LoadTracksResult
  intro s seq es hsettled htakes hentries result
  have hfits : es.length < 256 → lengthFits .loadTracks (tracksBytes es) = true := by
    intro hcount
    obtain ⟨hlength, hfield⟩ := tracksBytes_length hcount
    rw [lengthFits_table_iff (.inr rfl), hfield, hlength]
    exact ⟨List.ne_nil_of_length_pos (by omega), rfl⟩
  have hresult : ∀ c : State, c.sess = s.sess → c.tracks = s.tracks → es.length < 256 →
      (taken c seq .loadTracks).execute (runFunction .loadTracks (tracksBytes es)) = result (taken c seq .loadTracks) := by
    intro c hsess htracks hcount
    have hrun := State.execute_loadTracks (taken_working c seq .loadTracks) (trackEntries_tracksBytes hentries hcount)
    unfold trackEntryValid laneLoaded at hrun
    rw [taken_sess, taken_tracks, hsess, htracks] at hrun
    exact hrun
  refine ⟨fun hopen hshort => ?_, fun parts staged body hopen hshort hcount htable => ?_⟩
  · have hlength := (tracksBytes_length (es := es) (by omega)).1
    refine congrArg Host.Outcome.next ?_
    rw [← hresult s rfl rfl (by omega)]
    exact exec_only_table hsettled htakes hopen (by omega) (hfits (by omega))
  · have hlength := (tracksBytes_length (es := es) (by omega)).1
    refine congrArg Host.Outcome.next ?_
    rw [← hresult { s with cmd := { s.cmd with openSequence := none } } rfl rfl (by omega), ← htable]
    refine exec_last_table hsettled htakes hopen hshort (by rw [htable]; omega) ?_
    rw [htable]
    exact hfits (by omega)

end Sys2Proof.Machine
end

section
/-! The Archive Writer at a path reset and a pinned Restart (R110): the OPEN segment closed with its forwarded values,
and the records that are rewritten. -/

namespace Sys2Proof.Machine

open Sys2Proof.Spec

/-! ### What is pending (R101) -/

theorem ArchiveWriter.recordPending_eq (w : ArchiveWriter) (queue : List Inserted) (n : Nat) :
    w.recordPending queue n = recordWaits w queue n := by
  have hnotes : w.directoryNotes queue = waitingNotes w queue := rfl
  rw [ArchiveWriter.recordPending, hnotes]
  refine List.any_congr rfl fun note => ?_
  cases note <;> rfl

theorem ArchiveWriter.headerPending_eq (w : ArchiveWriter) (queue : List Inserted) :
    w.headerPending queue = (waitingNotes w queue).contains .directoryHeader := by
  have hnotes : w.directoryNotes queue = waitingNotes w queue := rfl
  rw [ArchiveWriter.headerPending, hnotes, List.contains_eq_any_beq]
  refine List.any_congr rfl fun note => ?_
  cases note <;> rfl

/-! ### The one OPEN segment (R99) -/

/-- With at most one OPEN segment, every other entry is not OPEN. -/
theorem ArchiveWriter.InArea.not_opened_of_ne {w : ArchiveWriter} (h : w.InArea) {m k : Nat} {x : Segment}
    (hopen : w.openSegment = some (m + 1)) (hx : w.segments[k]? = some x) (hk : k ≠ m) : x.state ≠ .opened := by
  have hzero := ArchiveWriter.openCount_modifySegment_eq_zero h.oneOpen hopen (f := Segment.closeByReset)
    fun _ => SegState.noConfusion
  rw [ArchiveWriter.openCount_eq_zero_iff, ArchiveWriter.openSegment_eq_none_iff] at hzero
  refine hzero x (List.mem_iff_getElem?.mpr ⟨k, ?_⟩)
  rw [modifySegment_succ, List.getElem?_modify_ne _ _ hk.symm, hx]

/-- The numbers of the OPEN segments, counted from 0. -/
def ArchiveWriter.opened (w : ArchiveWriter) : List Nat :=
  (List.range w.segments.length).filter fun i => w.segments[i]?.any fun x => x.state == .opened

theorem ArchiveWriter.opened_of_none {w : ArchiveWriter} (h : w.openSegment = none) : w.opened = [] := by
  rw [ArchiveWriter.openSegment_eq_none_iff] at h
  refine List.filter_eq_nil_iff.mpr fun i _ hi => ?_
  obtain ⟨x, hx, hstate⟩ := (Option.any_eq_true _ _).mp hi
  exact h x (List.mem_of_getElem? hx) (beq_iff_eq.mp hstate)

theorem ArchiveWriter.InArea.opened_of_some {w : ArchiveWriter} (h : w.InArea) {m : Nat}
    (hopen : w.openSegment = some (m + 1)) : w.opened = [m] := by
  obtain ⟨m', x, hm, hx, hstate⟩ := ArchiveWriter.openSegment_spec hopen
  obtain rfl := Nat.succ.inj hm
  have hlt : m < w.segments.length := (List.getElem?_eq_some_iff.mp hx).1
  have hfilter : w.opened = (List.range w.segments.length).filter (· == m) := by
    refine List.filter_congr fun i _ => Bool.eq_iff_iff.mpr ?_
    rw [beq_iff_eq, Option.any_eq_true]
    refine ⟨fun ⟨y, hy, hopened⟩ => ?_, fun hi => ⟨x, hi ▸ hx, beq_iff_eq.mpr hstate⟩⟩
    by_contra hne
    exact h.not_opened_of_ne hopen hy hne (beq_iff_eq.mp hopened)
  rw [hfilter, List.filter_beq, List.count_eq_one_of_mem List.nodup_range (List.mem_range.mpr hlt)]
  rfl

/-- A segment as a reset leaves it (R110, step 2). -/
def Segment.kept (x : Segment) : Segment := if x.state = .opened then x.closeByReset else x

theorem ArchiveWriter.InArea.modify_closeByReset {w : ArchiveWriter} (h : w.InArea) {m : Nat}
    (hopen : w.openSegment = some (m + 1)) : w.segments.modify m Segment.closeByReset = w.segments.map Segment.kept := by
  obtain ⟨m', x, hm, hx, hstate⟩ := ArchiveWriter.openSegment_spec hopen
  obtain rfl := Nat.succ.inj hm
  refine List.ext_getElem? fun k => ?_
  rw [List.getElem?_map]
  by_cases hk : m = k
  · subst hk
    rw [List.getElem?_modify_eq, hx]
    exact congrArg some (if_pos hstate).symm
  · rw [List.getElem?_modify_ne _ _ hk]
    cases hy : w.segments[k]? with
    | none => rfl
    | some y => exact congrArg some (if_neg (h.not_opened_of_ne hopen hy (Ne.symm hk))).symm

theorem map_kept_of_none {w : ArchiveWriter} (h : w.openSegment = none) : w.segments.map Segment.kept = w.segments := by
  rw [ArchiveWriter.openSegment_eq_none_iff] at h
  exact (List.map_congr_left fun x hx => if_neg (h x hx)).trans (List.map_id _)

/-! ### The records that are rewritten (R110) -/

/-- The pending records but that of the OPEN segment, counted from 0. -/
def ArchiveWriter.rewrittenOthers (w : ArchiveWriter) (queue : List Inserted) : List Nat :=
  (List.range w.segments.length).filter fun i => !w.opened.contains i && recordWaits w queue (i + 1)

theorem ArchiveWriter.InArea.contains_opened {w : ArchiveWriter} (h : w.InArea) (i : Nat) :
    w.opened.contains i = (w.openSegment == some (i + 1)) := by
  cases hopen : w.openSegment with
  | none => simp [ArchiveWriter.opened_of_none hopen]
  | some n =>
    obtain ⟨m, x, rfl, -⟩ := ArchiveWriter.openSegment_spec hopen
    simp [h.opened_of_some hopen, Bool.beq_eq_decide_eq, eq_comm (a := i)]

/-- The model's list of the other rewritten segments counts them from 1. -/
theorem ArchiveWriter.InArea.others_eq {w : ArchiveWriter} (h : w.InArea) (queue : List Inserted) :
    ((List.range w.segments.length).filterMap fun i =>
        if w.recordPending queue (i + 1) && w.openSegment != some (i + 1) then some (i + 1) else none)
      = (w.rewrittenOthers queue).map (· + 1) := by
  have hcond : ∀ i, (w.recordPending queue (i + 1) && w.openSegment != some (i + 1))
      = (!w.opened.contains i && recordWaits w queue (i + 1)) := fun i => by
    rw [h.contains_opened, ArchiveWriter.recordPending_eq, Bool.and_comm]
    rfl
  simp only [hcond]
  rw [ArchiveWriter.rewrittenOthers, ← List.filterMap_eq_map, List.filterMap_filter]
  rfl

theorem ArchiveWriter.rewritten_nodup (w : ArchiveWriter) (queue : List Inserted) :
    (w.opened ++ w.rewrittenOthers queue).Nodup := by
  refine List.Nodup.append (List.nodup_range.filter _) (List.nodup_range.filter _) fun i hi hother => ?_
  have hnot := (List.mem_filter.mp hother).2
  simp [hi] at hnot

theorem ArchiveWriter.rewritten_lt (w : ArchiveWriter) (queue : List Inserted) :
    ∀ i ∈ w.opened ++ w.rewrittenOthers queue, i < w.segments.length := by
  intro i hi
  rcases List.mem_append.mp hi with hi | hi <;> exact List.mem_range.mp (List.mem_filter.mp hi).1

/-- The counters of the Archive Writer play no part in appending a record. -/
theorem ArchiveWriter.appendRecord_counters (w : ArchiveWriter) (n : Nat) (c : ArchiveCounters) :
    ArchiveWriter.appendRecord { w with counters := c } n = { w.appendRecord n with counters := c } := by
  obtain ⟨area, segments⟩ := w
  cases area with
  | none => rfl
  | some a =>
    cases n with
    | zero => rfl
    | succ i => cases hx : segments[i]? <;> simp [ArchiveWriter.appendRecord, hx]

theorem ArchiveWriter.appendRecord_keeps_counters (w : ArchiveWriter) (n : Nat) :
    (w.appendRecord n).counters = w.counters := by
  have hsame := congrArg ArchiveWriter.counters (w.appendRecord_counters n w.counters)
  exact hsame

/-- What a reset leaves before any directory line is written. -/
def ArchiveWriter.cleared (w : ArchiveWriter) : ArchiveWriter :=
  { w with
    segments := w.segments.map Segment.kept
    out := []
    staging := []
    archiving := false
    full := false
    closing := none
    counters := { w.counters with closed := if w.opened = [] then w.counters.closed else satInc w.counters.closed } }

/-- R110, in one run of directory lines: the header if it is due, then the records in order. -/
theorem ArchiveWriter.InArea.resetKept_eq {w : ArchiveWriter} (h : w.InArea) (queue : List Inserted) (always : Bool) :
    w.resetKept queue always
      = (w.opened ++ w.rewrittenOthers queue).foldl (fun v i => v.appendRecord (i + 1))
          (if always || w.headerPending queue then w.cleared.appendHeader else w.cleared) := by
  simp only [ArchiveWriter.resetKept, h.others_eq]
  cases hopen : w.openSegment with
  | none =>
    rw [List.foldl_map, ArchiveWriter.cleared, ArchiveWriter.opened_of_none hopen, map_kept_of_none hopen, if_pos rfl,
      List.nil_append]
  | some n =>
    obtain ⟨m, x, rfl, -⟩ := ArchiveWriter.openSegment_spec hopen
    rw [List.foldl_map, h.opened_of_some hopen, List.singleton_append, List.foldl_cons]
    refine congrArg (fun v => List.foldl _ v _) ?_
    simp only [ArchiveWriter.appendRecord_keeps_counters, ← ArchiveWriter.appendRecord_counters, modifySegment_succ]
    refine congrArg (ArchiveWriter.appendRecord · (m + 1)) ?_
    have hsegments := h.modify_closeByReset hopen
    have hopened : w.opened ≠ [] := by rw [h.opened_of_some hopen]; exact List.cons_ne_nil _ _
    rw [ArchiveWriter.cleared, ← hsegments, if_neg hopened]
    cases always || w.headerPending queue with
    | false => rfl
    | true =>
      cases harea : w.area <;> simp [ArchiveWriter.appendHeader]

/-- The writer that the records are appended to: its header line, if it is due, and nothing else in the output list. -/
def ArchiveWriter.clearedWith (w : ArchiveWriter) (a : Area) (due : Bool) : ArchiveWriter :=
  { w.cleared with out := if due then [.directory a.base (directoryHeader a) .directoryHeader] else [] }

theorem ArchiveWriter.cleared_header {w : ArchiveWriter} {a : Area} (harea : w.area = some a) (due : Bool) :
    (if due then w.cleared.appendHeader else w.cleared) = w.clearedWith a due := by
  have hcleared : w.cleared.area = some a := harea
  cases due with
  | false => rfl
  | true =>
    rw [if_pos rfl, ArchiveWriter.clearedWith]
    simp only [ArchiveWriter.appendHeader, hcleared, if_true]
    rfl

/-- What a reset leaves of the Archive Writer is what R110 says. -/
theorem ArchiveWriter.InArea.resetKept_eq_resetArchive {w : ArchiveWriter} (h : w.InArea)
    (hserial : w.updateSerial ≤ 4294967295) (queue : List Inserted) (always : Bool) :
    w.resetKept queue always = resetArchive w queue always := by
  rw [h.resetKept_eq]
  cases harea : w.area with
  | none =>
    have hempty : w.segments = [] := by
      rw [← List.length_eq_zero_iff, h.table, harea]
      rfl
    have hopened : w.opened = [] := by rw [ArchiveWriter.opened, hempty]; rfl
    have hothers : w.rewrittenOthers queue = [] := by rw [ArchiveWriter.rewrittenOthers, hempty]; rfl
    have hheader : w.cleared.appendHeader = w.cleared := by
      have hcleared : w.cleared.area = none := harea
      simp only [ArchiveWriter.appendHeader, hcleared]
    have hserials : min (w.updateSerial + 0) 4294967295 = w.updateSerial := serialAfter_zero hserial
    rw [hopened, hothers, hheader, ite_self, List.append_nil, List.foldl_nil, ArchiveWriter.cleared, hopened]
    simp [resetArchive, hempty, harea, hserial]
  | some a =>
    have hin : ∀ i ∈ w.opened ++ w.rewrittenOthers queue, i < w.cleared.segments.length := by
      rw [ArchiveWriter.cleared, List.length_map]
      exact w.rewritten_lt queue
    rw [ArchiveWriter.cleared_header harea]
    refine (ArchiveWriter.foldl_appendRecord_eq (w := w.clearedWith a _) harea hserial (w.rewritten_nodup queue)
      hin).trans ?_
    rw [ArchiveWriter.rewrite, ArchiveWriter.headerPending_eq, ArchiveWriter.clearedWith]
    have hsegments : (w.cleared.segments.zipIdx.map fun (x, i) =>
          match (w.opened ++ w.rewrittenOthers queue).idxOf? i with
          | some j => { x with updateSerial := serialAfter w.updateSerial (j + 1) }
          | none => x)
        = w.segments.zipIdx.map fun (x, i) =>
          match (w.opened ++ w.rewrittenOthers queue).idxOf? i with
          | some j => { x.kept with updateSerial := serialAfter w.updateSerial (j + 1) }
          | none => x.kept := by
      rw [ArchiveWriter.cleared, List.zipIdx_map, List.map_map]
      rfl
    have hlines : ∀ serial i, rewrittenLine a w.cleared.segments serial i
        = w.segments[i]?.toList.map fun x =>
          .directory (a.base + 64 * (i + 1)) (directoryRecord (i + 1) x.kept serial)
            (.directoryRecord (i + 1) x.kept.state) := by
      intro serial i
      rw [rewrittenLine, ArchiveWriter.cleared, List.getElem?_map]
      cases w.segments[i]? <;> rfl
    unfold resetArchive
    congr 1
    rw [harea, Option.toList_some, List.flatMap_singleton]
    exact congrArg _ (List.flatMap_congr fun ⟨i, j⟩ _ => hlines _ _)

end Sys2Proof.Machine
end

section
/-! Start and Stop (R7, R12, R51, R109): the checks of Start and the part it leaves, and the three ways of Stop. -/

namespace Sys2Proof.Machine

open Sys2Proof.Spec

/-! ### Start (R7) -/

theorem anyOverlap_iff (l : List Region) : anyOverlap l = false ↔ l.Pairwise fun a b => ¬ Overlap a b := by
  induction l with
  | nil => simp [anyOverlap]
  | cons r rs ih =>
    rw [anyOverlap, Bool.or_eq_false_iff, ih, List.pairwise_cons, List.any_eq_false]
    simp only [Region.overlaps_iff]

@[simp] theorem taken_regions (s : State) (seq : Byte) (fn : Function) : (taken s seq fn).regions = s.regions := by
  rw [State.regions, taken_regionsButReports, taken_rw, State.regions]

theorem one_le_enabledCount_iff (tracks : List Track) :
    1 ≤ enabledCount tracks ↔ ¬ ∀ x ∈ tracks, x.record.enabled = false := by
  rw [enabledCount, Nat.one_le_iff_ne_zero, Ne, List.countP_eq_zero]
  simp only [Bool.not_eq_true]

/-- A window at Start, loaded or not (R7; assumptions 4 and 24). -/
theorem Window.startSession_eq (x : Window) :
    x.startSession
      = if x.record = none then { x with strayArmed := true, counts := ⟨0, 0, 0, 0, 0, 0, 0⟩ }
        else ⟨x.record, 0, none, true, .live, false, 0, true, false, ⟨0, 0, 0, 0, 0, 0, 0⟩⟩ := by
  rw [Window.startSession]
  cases hrecord : x.record <;> simp [Window.unloaded, WindowCounters.zero]

/-- The record of an enabled stream is the record it has (R114). -/
theorem Stream.enabledRecord_eq (x : Stream) :
    x.enabledRecord
      = match x.record with
        | some b => if b.enabled = 1 then some b else none
        | none => none := by
  rw [Stream.enabledRecord]
  cases x.record with
  | none => rfl
  | some b =>
    rw [Option.filter_some]
    exact ite_congr (propext beq_iff_eq) (fun _ => rfl) fun _ => rfl

/-- A stream at Start, enabled or not (R75, R129, R130). -/
theorem Stream.startSession_eq (x : Stream) (k : Nat) :
    x.startSession k
      = match x.record with
        | some b =>
          if b.enabled = 1 then
            ⟨some b, List.replicate b.slotCount.toNat ⟨.free, [], false⟩, 0, true, true, 0, BitVec.ofNat 32 (k + 1),
              0, 0, 0, 0, 0, 0⟩
          else
            { x with
              generator := BitVec.ofNat 32 (k + 1), filled := 0, freed := 0, dropped := 0, overwritten := 0,
              late := 0, unmarked := 0 }
        | none =>
          { x with
            generator := BitVec.ofNat 32 (k + 1), filled := 0, freed := 0, dropped := 0, overwritten := 0,
            late := 0, unmarked := 0 } := by
  rw [Stream.startSession, Stream.enabledRecord_eq]
  cases hrecord : x.record with
  | none => simp [Stream.clearCounters, hrecord]
  | some b =>
    by_cases henabled : b.enabled = 1
    · simp [henabled, hrecord, Stream.clearCounters, Stream.resetRing, Slot.empty]
    · simp only [if_neg henabled, Stream.clearCounters, hrecord]

@[simp] theorem State.startSession_cmd (s : State) : s.startSession.cmd = s.cmd := by
  simp only [State.startSession, State.file, State.setRw_cmd, State.setPath_cmd, State.setSw_cmd, State.setAw_cmd,
    State.setBuses_cmd, State.setTracks_cmd, State.setBuffers_cmd, State.setFt_cmd, State.setSess_cmd]

/-- The checks of R7 in order, and the session that begins. -/
theorem State.execute_start {s : State} (hw : s.cmd.working ≠ none) :
    s.execute State.start
      = if s.sess.state ≠ .idle then refused s .notIdle
        else if s.sess.record = none then refused s .notConfigured
        else if ∀ x ∈ s.tracks, x.record.enabled = false then refused s .notConfigured
        else if ¬ s.regions.Pairwise fun a b => ¬ Overlap a b then refused s .overlap
        else if ¬ ∀ t ∈ s.aw.releaseOrder, (s.tracks.getD t Track.reset).record.enabled = true then
          refused s .unknownTrack
        else done s.startSession [] := by
  refine State.answer_checked_cons hw s.isIdle_iff _ ?_
  refine State.answer_checked_cons hw ?_ _ ?_
  · rw [Option.isSome_iff_ne_none]
  refine State.answer_checked_cons hw ?_ _ ?_
  · rw [decide_eq_true_iff, one_le_enabledCount_iff]
  refine State.answer_checked_cons hw ?_ _ ?_
  · rw [Bool.not_eq_true', anyOverlap_iff, not_not]
  refine State.answer_checked_cons hw ?_ _ ?_
  · rw [List.all_eq_true, not_not]
    rfl
  exact State.answer_checked_nil hw s.startSession_cmd []

/-- What Start leaves of every block (R7), with the session record it files. -/
theorem State.startSession_eq (s : State) :
    s.startSession
      = { s with
          sess := s.sess.startSession
          ft := FrameTable.startSession (enabledCount s.tracks)
          buffers := []
          tracks := s.tracks.map Track.startSession
          buses := s.buses.map fun b => b.apply.clearMeters
          aw := s.aw.startSession
          sw := s.sw.startSession
          path := s.path.startSession
          rw := filed s.rw ⟨.sessionState, 0, none, 1, 0⟩ } := by
  rw [State.startSession, State.file_eq_filed]
  simp only [State.setSess, State.setFt, State.setBuffers, State.setTracks, State.setBuses, State.setAw, State.setSw,
    State.setPath]
  rfl

/-- Settles O17: the take, the checks of R7, and every block as it begins a session. -/
theorem startBeginsASession : Obligations.StartBeginsASession := by
  unfold Obligations.StartBeginsASession
  intro s seq hreach u
  have hrun := State.execute_start (taken_working s seq .start)
  rw [taken_sess, taken_tracks, taken_regions, taken_aw] at hrun
  have hwindows : s.sess.windows.map Window.startSession = s.sess.windows.map fun x =>
      if x.record = none then { x with strayArmed := true, counts := ⟨0, 0, 0, 0, 0, 0, 0⟩ }
      else ⟨x.record, 0, none, true, .live, false, 0, true, false, ⟨0, 0, 0, 0, 0, 0, 0⟩⟩ :=
    List.map_congr_left fun x _ => x.startSession_eq
  have hstreams : startStreams 0 s.sw.streams = s.sw.streams.zipIdx.map fun (x, k) =>
      match x.record with
      | some b =>
        if b.enabled = 1 then
          ⟨some b, List.replicate b.slotCount.toNat ⟨.free, [], false⟩, 0, true, true, 0, BitVec.ofNat 32 (k + 1),
            0, 0, 0, 0, 0, 0⟩
        else
          { x with
            generator := BitVec.ofNat 32 (k + 1), filled := 0, freed := 0, dropped := 0, overwritten := 0,
            late := 0, unmarked := 0 }
      | none =>
        { x with
          generator := BitVec.ofNat 32 (k + 1), filled := 0, freed := 0, dropped := 0, overwritten := 0,
          late := 0, unmarked := 0 } := by
    rw [startStreams_eq]
    exact List.map_congr_left fun ⟨x, k⟩ _ => x.startSession_eq k
  rw [State.startSession_eq] at hrun
  simp only [taken_rw, SessionControl.startSession, taken_sess,
    taken_tracks, taken_aw, taken_sw, taken_buses, StreamWriter.startSession, hwindows, hstreams, enabledCount,
    List.countP_eq_length_filter] at hrun
  refine congrArg Host.Outcome.next ((State.takeFunction_of_reaches hreach _ _).trans (hrun.trans ?_))
  congr

end Sys2Proof.Machine
end

section
/-! Stop (R12, R51, R109): the close of every held frame, and the end of the session by closing. -/

namespace Sys2Proof.Machine

open Sys2Proof.Spec

/-! ### Closing every held frame (R50, R51) -/

/-- Closing every frame keeps what a close keeps. -/
theorem State.closeAll_frame (s : State) (cause : Cause) :
    let t := s.closeAll cause
    t.path = s.path ∧ t.cmd = s.cmd ∧ t.straps = s.straps ∧ t.ports = s.ports ∧ t.report = s.report
      ∧ t.pending = s.pending ∧ t.sess.state = s.sess.state ∧ t.sess.record = s.sess.record
      ∧ t.sess.serial = s.sess.serial ∧ t.sess.resume = s.sess.resume ∧ t.sess.timer = s.sess.timer := by
  unfold State.closeAll
  split
  · exact State.closeRun_frame _ _ _ s
  · exact ⟨rfl, rfl, rfl, rfl, rfl, rfl, rfl, rfl, rfl, rfl, rfl⟩

/-- The newest closed number becomes that of the newest held frame. -/
theorem State.closeAll_newest {s : State} (h : s.orderView.Spaced) (cause : Cause) :
    (s.closeAll cause).ft.newest = (s.ft.frames.getLast?.map Frame.number).or s.ft.newest := by
  unfold State.closeAll
  split
  · next f hlast =>
    have hlow : s.ft.nextNumber ≤ f.number :=
      (h.bounds f.number (List.mem_map_of_mem (List.mem_of_getLast? hlast))).1
    obtain ⟨-, hnewest, -, -⟩ := State.closeRun_ft cause (f.number + 1 - s.ft.nextNumber) s.ft.nextNumber s
    rw [State.closeBelow, hnewest, if_neg (by omega), hlast]
    exact congrArg some (by omega)
  · next hnone =>
    rw [hnone]
    rfl

theorem State.closeAll_frames {s : State} (h : s.orderView.Spaced) (cause : Cause) : (s.closeAll cause).ft.frames = [] :=
  List.map_eq_nil_iff.mp (State.closeAll_spaced h cause).2

/-! ### The Archive Writer over the closes -/

theorem State.produce_inArea {s : State} (h : s.aw.InArea) (f : Frame) : (s.produce f).aw.InArea := by
  simp only [State.produce, State.fileEither, State.fileAll, State.setSw_aw, State.setRw_aw, State.setFreeCount_aw,
    State.setAw_aw]
  exact h.takeFrame _ _ _

theorem State.closeFrame_inArea {s : State} (h : s.aw.InArea) (f : Frame) (cause : Cause) (empty : Bool) :
    (s.closeFrame f cause empty).aw.InArea := by
  have hevaluated : (((s.closeNumber f.number).abandonBuffers f.number).evaluateClose f).aw = s.aw := by
    simp only [State.evaluateClose, State.fileEither, State.fileAll, State.abandonBuffers, State.closeNumber,
      State.setRw_aw, State.setFreeCount_aw, State.setTracks_aw, State.setSess_aw, State.setBuffers_aw, State.setFt_aw]
  rw [State.closeFrame, State.countClose, State.setFt_aw]
  exact State.produce_inArea (by rwa [hevaluated]) _

theorem State.closeOne_inArea {s : State} (h : s.aw.InArea) (g : Nat) (cause : Cause) :
    (s.closeOne g cause).aw.InArea := by
  unfold State.closeOne
  split
  · exact State.closeFrame_inArea h _ _ _
  · exact State.closeFrame_inArea h _ _ _

theorem State.closeRun_inArea (cause : Cause) (count g : Nat) {s : State} (h : s.aw.InArea) :
    (State.closeRun cause count g s).aw.InArea := by
  induction count generalizing g s with
  | zero => exact h
  | succ count ih => exact ih (g + 1) (State.closeOne_inArea h g cause)

theorem State.closeAll_inArea {s : State} (h : s.aw.InArea) (cause : Cause) : (s.closeAll cause).aw.InArea := by
  unfold State.closeAll
  split
  · exact State.closeRun_inArea _ _ _ h
  · exact h

/-- The close of segment `n + 1`: its entry, its record with the next update serial, and the counter (R99, R101). -/
theorem ArchiveWriter.closeAt_succ {w : ArchiveWriter} {a : Area} {n : Nat} {x : Segment} (harea : w.area = some a)
    (hx : w.segments[n]? = some x) (cause : CloseCause) :
    w.closeAt (n + 1) cause
      = { w with
          segments :=
            w.segments.set n
              { x with state := .closed, settled := false, cause := cause, updateSerial := satInc w.updateSerial }
          updateSerial := satInc w.updateSerial
          out := w.out ++ [.directory (a.base + 64 * (n + 1))
            (directoryRecord (n + 1) { x with state := .closed, settled := false, cause := cause }
              (satInc w.updateSerial)) (.directoryRecord (n + 1) .closed)]
          counters := { w.counters with closed := satInc w.counters.closed } } := by
  have hlt : n < w.segments.length := (List.getElem?_eq_some_iff.mp hx).1
  have hrecord := ArchiveWriter.appendRecord_succ
    (w := { w with segments := w.segments.set n { x with state := .closed, settled := false, cause := cause } }) harea
    (List.getElem?_set_self hlt)
  rw [ArchiveWriter.closeAt, ArchiveWriter.modifySegment_succ, modify_eq_set_of_getElem? _ hx, hrecord]
  simp only [List.set_set]

/-- R109: after the end by Stop no segment is OPEN. -/
theorem ArchiveWriter.InArea.stopSession_openSegment {w : ArchiveWriter} (h : w.InArea) :
    w.stopSession.openSegment = none := by
  unfold ArchiveWriter.stopSession
  split
  · next n hopen => exact (ArchiveWriter.openCount_eq_zero_iff _).mp (h.closeAt hopen .stopped).2
  · next hnone => exact hnone

/-! ### Stop (R12) -/

/-- R12: the session as DRAINING is entered, with its record. -/
def State.ending (s : State) : State :=
  { s with
    sess := { s.sess with state := .draining, timer := none }
    rw := filed s.rw (stateRecord .draining s.sess.state) }

theorem stateRecord_of_lasting {x : SessionState} (h : x = .running ∨ x = .stalled) :
    stateRecord .draining x = ⟨.sessionState, 0, none, 4, if x = .running then 2 else 3⟩ := by
  rcases h with rfl | rfl
  · rfl
  · rfl

theorem State.beginDraining_eq (s : State) :
    s.beginDraining
      = { s.ending.closeAll .stop with aw := (s.ending.closeAll .stop).aw.stopSession } := by
  rw [State.beginDraining, State.file_eq_filed]
  rfl

theorem State.endSession_file (s : State) :
    s.endSession.file (stateRecord .idle .armed)
      = { s with
          sess := { s.sess with state := .idle, timer := none }
          tracks := s.tracks.map fun x => { x with status := .idle }
          aw := { s.aw with archiving := false, full := false, closing := none }
          rw := filed s.rw ⟨.sessionState, 0, none, 0, 1⟩ } := by
  rw [State.file_eq_filed]
  rfl

theorem State.execute_stop_idle {s : State} (hw : s.cmd.working ≠ none) (h : s.sess.state = .idle) :
    s.execute State.stop = done s [] := by
  rw [State.execute, State.stop, h]
  exact State.answer_done hw []

theorem State.execute_stop_armed {s : State} (hw : s.cmd.working ≠ none) (h : s.sess.state = .armed) :
    s.execute State.stop = done (s.endSession.file (stateRecord .idle .armed)) [] := by
  rw [State.execute, State.stop, h]
  exact State.answer_done (by rwa [State.endSession_file]) []

theorem State.execute_stop_draining {s : State} (h : s.sess.state = .running ∨ s.sess.state = .stalled) :
    s.execute State.stop = s.beginDraining := by
  rw [State.execute, State.stop]
  rcases h with h | h
  · rw [h]
    rfl
  · rw [h]
    rfl

/-- What Stop leaves in RUNNING and STALLED, from a state in frame order (R12, R51). -/
theorem State.beginDraining_spec {s : State} (hs : s.sess.state ≠ .idle) (horder : s.FrameOrder) (harea : s.aw.InArea) :
    let t := s.beginDraining
    t.sess.state = .draining ∧ t.sess.timer = none ∧ t.ft.frames = []
      ∧ t.ft.newest = (s.ft.frames.getLast?.map Frame.number).or s.ft.newest ∧ t.aw.openSegment = none
      ∧ t.sess.record = s.sess.record ∧ t.sess.serial = s.sess.serial ∧ t.sess.resume = s.sess.resume
      ∧ t.cmd = s.cmd ∧ t.path = s.path ∧ t.ports = s.ports ∧ t.straps = s.straps ∧ t.report = s.report
      ∧ t.pending = s.pending := by
  have hspaced : s.ending.orderView.Spaced := horder.spaced.withState hs .draining
  obtain ⟨hpath, hcmd, hstraps, hports, hreport, hpending, hstate, hrecord, hserial, hresume, htimer⟩ :=
    s.ending.closeAll_frame .stop
  have hopen := (State.closeAll_inArea (s := s.ending) harea .stop).stopSession_openSegment
  rw [State.beginDraining_eq]
  exact ⟨hstate, htimer, State.closeAll_frames hspaced .stop, State.closeAll_newest hspaced .stop, hopen, hrecord,
    hserial, hresume, hcmd, hpath, hports, hstraps, hreport, hpending⟩

theorem taken_orderView (s : State) (seq : Byte) (fn : Function) : (taken s seq fn).orderView = s.orderView := by
  rw [State.orderView, taken_sess, taken_ft, State.orderView]

/-- Settles O18: the three ways of Stop. -/
theorem stopEndsASession : Obligations.StopEndsASession := by
  unfold Obligations.StopEndsASession
  intro s seq hreach u
  have hw : u.cmd.working ≠ none := taken_working s seq .stop
  have hsess : u.sess = s.sess := taken_sess s seq .stop
  have hexec : exec (.stop seq) s = .next (u.execute State.stop) :=
    congrArg Host.Outcome.next (State.takeFunction_of_reaches hreach _ _)
  rw [hexec]
  refine ⟨fun hidle => ?_, fun harmed => ?_, fun hlasting horder harea => ?_, fun hlasting => ?_⟩
  · rw [State.execute_stop_idle hw (by rwa [hsess])]
  · rw [State.execute_stop_armed hw (by rwa [hsess]), State.endSession_file, hsess, taken_tracks, taken_aw, taken_rw]
  · rw [State.execute_stop_draining (by rwa [hsess])]
    refine ⟨_, rfl, ?_⟩
    have hidle : u.sess.state ≠ .idle := by
      rw [hsess]
      rcases hlasting with h | h <;> simp [h]
    have horder' : u.FrameOrder := horder.of_view (taken_orderView s seq .stop)
    have harea' : u.aw.InArea := by rwa [show u.aw = s.aw from taken_aw s seq .stop]
    have hspec := State.beginDraining_spec hidle horder' harea'
    have hft : u.ft = s.ft := taken_ft s seq .stop
    have hstraps : u.straps = s.straps := taken_straps s seq .stop
    have hreport : u.report = none := (taken_report s seq .stop).trans hreach.1.1
    have hpending : u.pending = s.pending := taken_pending s seq .stop
    rwa [hft, hsess, hstraps, hreport, hpending] at hspec
  · intro ending c
    rw [State.execute_stop_draining (by rwa [hsess]), State.beginDraining_eq]
    have hending : u.ending = ending := by
      rw [State.ending, hsess, show u.rw = s.rw from taken_rw s seq .stop, stateRecord_of_lasting hlasting]
    rw [hending]
    refine ⟨fun hnone => ?_, ?_⟩
    · rw [ArchiveWriter.stopSession, hnone]
    · intro n x a hopen hx harea serial closed
      rw [ArchiveWriter.stopSession, hopen]
      dsimp only
      rw [ArchiveWriter.closeAt_succ harea hx]

end Sys2Proof.Machine
end

section
/-! Restart and the path reset (R14, R53, R110, R147, R159, R162): what they keep of every block. -/

namespace Sys2Proof.Machine

open Sys2Proof.Spec

/-! ### What a reset leaves of the Archive Writer, whatever its table (R110) -/

/-- What no directory line touches: the area, the Release Order List, the flags and the staging store. -/
def ArchiveWriter.unwritten (w : ArchiveWriter) :
    Option Area × List Nat × Bool × Bool × Bool × List StagedEntry :=
  (w.area, w.releaseOrder, w.archiving, w.full, w.pendingDiscontinuity, w.staging)

theorem ArchiveWriter.modifySegment_unwritten (w : ArchiveWriter) (n : Nat) (f : Segment → Segment) :
    (w.modifySegment n f).unwritten = w.unwritten := by
  cases n <;> rfl

theorem ArchiveWriter.appendRecord_unwritten (w : ArchiveWriter) (n : Nat) :
    (w.appendRecord n).unwritten = w.unwritten := by
  unfold ArchiveWriter.appendRecord
  split
  · exact w.modifySegment_unwritten n _
  · rfl

theorem ArchiveWriter.foldl_appendRecord_unwritten (ns : List Nat) (w : ArchiveWriter) :
    (ns.foldl (fun v n => v.appendRecord n) w).unwritten = w.unwritten := by
  induction ns generalizing w with
  | nil => rfl
  | cons n ns ih => exact (ih _).trans (w.appendRecord_unwritten n)

theorem ArchiveWriter.appendHeader_unwritten (w : ArchiveWriter) : w.appendHeader.unwritten = w.unwritten := by
  unfold ArchiveWriter.appendHeader
  split <;> rfl

theorem ArchiveWriter.resetKept_unwritten (w : ArchiveWriter) (queue : List Inserted) (always : Bool) :
    (w.resetKept queue always).unwritten = (w.area, w.releaseOrder, false, false, w.pendingDiscontinuity, []) := by
  have hclose : ∀ v : ArchiveWriter,
      (match w.openSegment with
        | some n =>
          let v := (v.modifySegment n Segment.closeByReset).appendRecord n
          { v with counters := { v.counters with closed := satInc v.counters.closed } }
        | none => v : ArchiveWriter).unwritten = v.unwritten := by
    intro v
    split
    · exact (ArchiveWriter.appendRecord_unwritten _ _).trans (v.modifySegment_unwritten _ _)
    · rfl
  rw [ArchiveWriter.resetKept]
  refine (ArchiveWriter.foldl_appendRecord_unwritten _ _).trans ((hclose _).trans ?_)
  split
  · exact ArchiveWriter.appendHeader_unwritten _
  · rfl

/-! ### Restart (R159) -/

section taken

variable (s : State) (seq : Byte) (fn : Function)

theorem taken_pin : (taken s seq fn).cmd.pin = s.cmd.pin := by
  unfold taken takenWith
  split <;> rfl

theorem taken_archiveQueue : (taken s seq fn).path.queues.archive = s.path.queues.archive := by
  unfold taken takenWith
  split <;> rfl

theorem taken_levels : (taken s seq fn).path.levels = s.path.levels := by
  unfold taken takenWith
  split <;> rfl

theorem taken_shareLimit : (taken s seq fn).path.shareLimit = s.path.shareLimit := by
  unfold taken takenWith
  split <;> rfl

end taken

/-- What a pinned Restart leaves of every block. -/
theorem State.restart_pinned {s : State} (h : s.cmd.pin = true) :
    s.restart
      = ({ s with
          sess := s.sess.afterReset s.sess.record (s.sess.windows.map Window.resetKept)
          ft := s.ft.afterReset
          buffers := []
          tracks := s.tracks.map Track.resetKept
          aw := s.aw.resetKept s.path.queues.archive true
          sw := s.sw.resetKept
          rw := s.rw.resetKept
          path := s.path.restart true
          cmd := { s.cmd with causes := { s.cmd.causes with restart := true } } }, .done []) := by
  simp only [State.restart, h, if_true, State.resetKept, State.setSess, State.setFt, State.setBuffers, State.setTracks,
    State.setSw, State.setRw, State.setAw, State.setPath, State.setCmd]

/-- What an unpinned Restart leaves of every block. -/
theorem State.restart_unpinned {s : State} (h : s.cmd.pin = false) :
    s.restart
      = ({ s with
          sess := s.sess.afterReset none (s.sess.windows.map Window.resetUnpinned)
          ft := s.ft.afterReset
          buffers := []
          tracks := s.tracks.map fun _ => Track.reset
          buses := s.buses.map Bus.resetUnpinned
          aw := s.aw.resetUnpinned
          sw := s.sw.resetUnpinned
          rw := s.rw.resetUnpinned
          path := s.path.restart false
          cmd := { s.cmd with causes := { s.cmd.causes with restart := true } } }, .done []) := by
  simp only [State.restart, h, Bool.false_eq_true, if_false, State.resetUnpinned, State.setSess, State.setFt,
    State.setBuffers, State.setTracks, State.setBuses, State.setSw, State.setRw, State.setAw, State.setPath, State.setCmd]

theorem StreamWriter.resetKept_eq (w : StreamWriter) :
    w.resetKept
      = ⟨w.streams.map fun x =>
          { x with slots := x.slots.map fun q => if q.state = .filling then ⟨.free, [], false⟩ else q }, []⟩ := by
  rw [StreamWriter.resetKept]
  refine congrArg (StreamWriter.mk · []) (List.map_congr_left fun x _ => ?_)
  rw [Stream.abandonFilling]
  simp only [beq_iff_eq, Slot.empty]

theorem Window.resetUnpinned_spec (x : Window) :
    x.resetUnpinned.record = none ∧ x.resetUnpinned.anchor = 0 ∧ x.resetUnpinned.reference = none
      ∧ x.resetUnpinned.anchored = true := by
  unfold Window.resetUnpinned
  cases h : x.record with
  | none => exact ⟨h, rfl, rfl, rfl⟩
  | some r => exact ⟨rfl, rfl, rfl, rfl⟩

/-- Settles O28: the take, and what Restart leaves of every block with the pin flag on and off. -/
theorem restartResult : Obligations.RestartResult := by
  unfold Obligations.RestartResult
  intro s seq hreach u
  have hw : u.cmd.working ≠ none := taken_working s seq .restart
  have hsess : u.sess = s.sess := taken_sess s seq .restart
  have hft : u.ft = s.ft := taken_ft s seq .restart
  have htracks : u.tracks = s.tracks := taken_tracks s seq .restart
  have hbuses : u.buses = s.buses := taken_buses s seq .restart
  have haw : u.aw = s.aw := taken_aw s seq .restart
  have hsw : u.sw = s.sw := taken_sw s seq .restart
  have hrw : u.rw = s.rw := taken_rw s seq .restart
  have hqueue : u.path.queues.archive = s.path.queues.archive := taken_archiveQueue s seq .restart
  have hlevels : u.path.levels = s.path.levels := taken_levels s seq .restart
  have hlimit : u.path.shareLimit = s.path.shareLimit := taken_shareLimit s seq .restart
  have hcauses : u.cmd.causes = s.cmd.causes := taken_causes s seq .restart
  have hpin : u.cmd.pin = s.cmd.pin := taken_pin s seq .restart
  have hstraps : u.straps = s.straps := taken_straps s seq .restart
  have hreport : u.report = none := (taken_report s seq .restart).trans hreach.1.1
  have hpending : u.pending = s.pending := taken_pending s seq .restart
  have hexec : exec (.restart seq) s = .next (u.execute State.restart) :=
    congrArg Host.Outcome.next (State.takeFunction_of_reaches hreach _ _)
  have hanswer : ∀ t : State, u.restart = (t, .done []) → t.cmd.working = u.cmd.working →
      u.execute State.restart = done t [] := by
    intro t ht hcmd
    rw [State.execute, ht]
    exact State.answer_done (by rwa [hcmd]) []
  rw [hexec]
  cases hon : s.cmd.pin with
  | true =>
    have hrestart := State.restart_pinned (hpin.trans hon)
    rw [hsess, hft, htracks, haw, hsw, hrw, hqueue, PathUnit.restart, if_pos rfl, if_pos rfl, hlevels, hlimit,
      hcauses] at hrestart
    have hkept := s.aw.resetKept_unwritten s.path.queues.archive true
    simp only [ArchiveWriter.unwritten, Prod.mk.injEq] at hkept
    obtain ⟨harea, horder, harchiving, hfull, -, hstaging⟩ := hkept
    rw [hanswer _ hrestart rfl]
    refine ⟨_, rfl, rfl, rfl, rfl, rfl, ?_, rfl, rfl, ?_, hstaging, harchiving, hfull, rfl, rfl, rfl, rfl, rfl, rfl,
      fun _ => ?_, fun hoff => absurd hoff Bool.noConfusion, hstraps, rfl, hreport, hpending⟩
    · exact List.forall_mem_map.mpr fun _ _ => ⟨rfl, rfl, rfl⟩
    · exact List.forall_mem_map.mpr fun _ _ => ⟨rfl, rfl, rfl⟩
    · exact ⟨rfl, rfl, rfl, hbuses, s.sw.resetKept_eq, harea, horder, rfl, rfl, rfl,
        fun hin hserial => hin.resetKept_eq_resetArchive hserial _ true⟩
  | false =>
    have hrestart := State.restart_unpinned (hpin.trans hon)
    rw [hsess, hft, htracks, haw, hsw, hrw, hbuses, PathUnit.restart, if_neg Bool.false_ne_true,
      if_neg Bool.false_ne_true, hcauses] at hrestart
    rw [hanswer _ hrestart rfl]
    refine ⟨_, rfl, rfl, rfl, rfl, rfl, ?_, rfl, rfl, ?_, rfl, rfl, rfl, rfl, rfl, rfl, rfl, rfl, rfl,
      fun hoff => absurd hoff Bool.noConfusion, fun _ => ?_, hstraps, rfl, hreport, hpending⟩
    · exact List.forall_mem_map.mpr fun x _ => x.resetUnpinned_spec.2
    · exact List.forall_mem_map.mpr fun _ _ => ⟨rfl, rfl, rfl⟩
    · exact ⟨rfl, List.forall_mem_map.mpr fun x _ => x.resetUnpinned_spec.1, List.forall_mem_map.mpr fun _ _ => rfl,
        rfl, rfl, rfl, rfl⟩

/-! ### The path reset (R147, R162) -/

theorem PathUnit.takeIn_of_empty {u : PathUnit} (h : u.forward = []) :
    u.takeIn = { u with forward := u.waiting.take 32, waiting := u.waiting.drop 32 } := by
  simp [PathUnit.takeIn, h, forwardQueueSize]

/-- The header of an abandoned command: the first bytes of its header, and zeros (R162). -/
theorem abandonedHeader_eq (seq : Byte) (function flags : BitVec 16) :
    abandonedHeader seq function flags
      = [seq, 3] ++ leBytes 2 function.toNat ++ leBytes 2 flags.toNat ++ List.replicate 58 0 := rfl

/-- What a path reset leaves of every block but the path and the Command Unit. -/
theorem State.resetKept_setAw (s : State) :
    s.resetKept.setAw (s.aw.resetKept s.path.queues.archive false)
      = { s with
          sess := s.sess.afterReset s.sess.record (s.sess.windows.map Window.resetKept)
          ft := s.ft.afterReset
          buffers := []
          tracks := s.tracks.map Track.resetKept
          aw := s.aw.resetKept s.path.queues.archive false
          sw := s.sw.resetKept
          rw := s.rw.resetKept } := by
  simp only [State.resetKept, State.setSess, State.setFt, State.setBuffers, State.setTracks, State.setSw, State.setRw,
    State.setAw]

/-- What a path reset leaves of the path and the Command Unit where no command was WORKING. -/
theorem State.resetPath_of_ready {s : State} (h : s.cmd.working = none) :
    s.resetPath = { s with path := s.path.pathReset, cmd := s.cmd.pathReset } := by
  simp only [State.resetPath, h, State.setPath, State.setCmd]

/-- Where one was, its ABANDONED header is the one line of the Response queue. -/
theorem State.resetPath_of_working {s : State} {w : Working} (h : s.cmd.working = some w) :
    s.resetPath
      = { s with
          path :=
            { s.path.pathReset.enqueue .response s.straps.responseSlot.base
                ⟨abandonedHeader w.seq w.function (w.flags &&& flagOverrun), fullMask⟩ .responseLine with
              abandonedFirst := true }
          cmd := s.cmd.pathReset } := by
  simp only [State.resetPath, h, State.enqueueResponse, State.setPath, State.setCmd, Nat.mul_zero, Nat.add_zero]

/-- The ABANDONED header, where a command was WORKING, is all that the path's queues hold (R147, R162). -/
def State.abandonedLines (s : State) : List Inserted :=
  (s.cmd.working.map fun w =>
    ⟨s.path.nextOrder, s.straps.baseSel.toNat * 16777216 + 1024,
      ⟨[w.seq, 3] ++ leBytes 2 w.function.toNat ++ leBytes 2 (w.flags &&& 0x0100).toNat ++ List.replicate 58 0,
        fullMask⟩, .responseLine⟩).toList

theorem State.resetPath_eq (s : State) :
    s.resetPath
      = { s with
          path :=
            { s.path with
              forward := s.path.waiting.take 32
              waiting := s.path.waiting.drop 32
              outstanding := []
              share := 0
              queues := ⟨s.abandonedLines, [], [], [], []⟩
              nextOrder := if s.cmd.working = none then s.path.nextOrder else s.path.nextOrder + 1
              abandonedFirst := s.cmd.working.isSome }
          cmd :=
            { s.cmd with
              coverage := 0
              working := none
              out := []
              openSequence := none
              causes := { s.cmd.causes with path := true }
              abandoned := if s.cmd.working = none then s.cmd.abandoned else satInc s.cmd.abandoned } } := by
  cases hw : s.cmd.working with
  | none =>
    rw [State.resetPath_of_ready hw, PathUnit.pathReset, PathUnit.takeIn_of_empty rfl, CommandUnit.pathReset,
      State.abandonedLines, hw]
    rfl
  | some w =>
    rw [State.resetPath_of_working hw, PathUnit.pathReset, PathUnit.takeIn_of_empty rfl, CommandUnit.pathReset,
      State.abandonedLines, abandonedHeader_eq, hw]
    rfl

/-- Settles O33: with pass-only asserted the forward queue alone; otherwise every block, then the path. -/
theorem pathResetEndsTheSession : Obligations.PathResetEndsTheSession := by
  unfold Obligations.PathResetEndsTheSession
  intro s hsettled passing
  have hexec : exec .pathReset s = .next (quiet s).pathReset :=
    congrArg (fun t : State => Host.Outcome.next t.pathReset) (State.ready_of_settled hsettled)
  rw [hexec]
  refine ⟨fun hpass => ?_, fun hactive => ?_⟩
  · have hpassing : s.path.passOnlyReset = passing := PathUnit.takeIn_of_empty rfl
    rw [State.pathReset, if_pos hpass]
    exact congrArg (fun p => Host.Outcome.next { quiet s with path := p }) hpassing
  · have hkept := s.aw.resetKept_unwritten s.path.queues.archive false
    simp only [ArchiveWriter.unwritten, Prod.mk.injEq] at hkept
    obtain ⟨harea, horder, harchiving, hfull, hpendingMark, hstaging⟩ := hkept
    rw [State.pathReset, if_neg (by rw [quiet, hactive]; exact Bool.false_ne_true), State.resetKept_setAw, State.resetPath_eq]
    exact ⟨_, rfl, rfl, rfl, rfl, rfl, rfl, s.sw.resetKept_eq, hstaging, harchiving, hfull, harea, horder, hpendingMark,
      fun hin hserial => hin.resetKept_eq_resetArchive hserial _ false, rfl, rfl, rfl, rfl, rfl, hsettled.1, rfl⟩

end Sys2Proof.Machine
end

section
/-! The GET functions (R23, R38, R77, R111, R128, R157, R160, R161): the model's bodies are the reports, item by item,
with their lengths. -/

namespace Sys2Proof.Machine

open Sys2Proof.Spec

/-! ### Items of a body (R173) -/

theorem flagByte_eq (b : Bool) : flagByte b = flag b := rfl

theorem optionBytes_eq (n : Nat) (x : Option Nat) : optionBytes n x = orNone n x := by
  cases x <;> rfl

theorem sourceBytes_eq (x : Option Source) : sourceBytes x = sourceField x := by
  cases x <;> rfl

theorem freeBytes_eq (take i n : Nat) : freeBytes take i n = unstated take i n := rfl

@[simp] theorem flag_length (b : Bool) : (flag b).length = 1 := rfl

@[simp] theorem orNone_length (n : Nat) (x : Option Nat) : (orNone n x).length = n := by
  cases x with
  | none => exact List.length_replicate
  | some v => exact leBytes_length n v

@[simp] theorem unstated_length (take first n : Nat) : (unstated take first n).length = n := by
  rw [unstated, List.length_map, List.length_range]

@[simp] theorem counters_length (values : List Nat) : (counters values).length = 4 * values.length :=
  flatMap_length _ 4 _ fun v _ => leBytes_length 4 v

/-- A walk over the indices of a list, entry by entry. -/
theorem flatMap_range_eq_zipIdx {α : Type} (f : Option α → Nat → List Byte) (l : List α) :
    (List.range l.length).flatMap (fun i => f l[i]? i) = l.zipIdx.flatMap fun p => f (some p.1) p.2 := by
  have hentries : (List.range l.length).map (fun i => (l[i]?, i)) = l.zipIdx.map fun p => (some p.1, p.2) :=
    List.ext_getElem (by simp) fun i hi _ => by simp [List.getElem?_eq_getElem (by simpa using hi : i < l.length)]
  have hwalk := congrArg (fun entries => entries.flatMap fun q : Option α × Nat => f q.1 q.2) hentries
  simpa only [List.flatMap_map] using hwalk

theorem Rate.code_eq (r : Rate) : r.code = if r = .r48k then 1 else 2 := by
  cases r <;> rfl

theorem Format.code_eq (f : Format) : leBytes 1 f.code = [if f = .left then 0 else 1] := by
  cases f <;> rfl

theorem Liveness.code_eq (x : Liveness) : leBytes 1 x.code = [if x = .live then 0 else 1] := by
  cases x <;> rfl

theorem producers_flatMap (x : PerProducer Nat) :
    Producer.all.flatMap (fun p => leBytes 4 (x.get p))
      = counters [x.response, x.report, x.stream, x.mirror, x.archive] := rfl

/-! ### The bodies are the reports -/

/-- GetSession (R161). -/
theorem sessionBody_eq (s : State) : s.sessionBody = sessionReport s := by
  unfold State.sessionBody sessionReport
  simp only [producers_flatMap, counters, List.flatMap_cons, List.flatMap_nil, List.append_nil, List.append_assoc,
    optionBytes_eq, FrameCounters.bytes, SessionRecord.bytes, Rate.code_eq, freeBytes_eq]
  rfl

/-- GetTracks (R38). -/
theorem Track.bytes_eq (x : Track) (take t : Nat) : x.bytes take t = trackReport x take t := by
  unfold Track.bytes trackReport
  simp only [TrackRecord.bytes, sourceBytes_eq, counters, List.flatMap_cons, List.flatMap_nil, List.append_nil,
    List.append_assoc, freeBytes_eq]
  rcases x with ⟨record, status, run, _ | _ | _, absent, wins, compared, disagreements⟩
  · rfl
  · rfl
  · rfl

/-- GetWindows (R23). -/
theorem Window.bytes_eq (x : Window) (take w : Nat) : x.bytes take w = windowReport x take w := by
  unfold Window.bytes windowReport
  cases x.record with
  | none => rfl
  | some r =>
    simp only [WindowRecord.bytes, WindowCounters.bytes, Format.code_eq, Liveness.code_eq, optionBytes_eq, counters,
      List.flatMap_cons, List.flatMap_nil, List.append_nil, List.append_assoc, freeBytes_eq]
    rfl

/-- GetMeters (R77). -/
theorem Bus.bytes_eq (b : Bus) : b.bytes = busReport b := by
  simp only [Bus.bytes, busReport, counters, List.flatMap_cons, List.flatMap_nil, List.append_nil, List.append_assoc,
    flagByte_eq]

theorem slotSize_eq (b : StreamBody) (n : Nat) :
    b.slotSize n = 64 + n * b.busCount.toNat * (if b.width = 0 then 2 else 4) := by
  simp only [StreamBody.slotSize, StreamBody.payloadBytes, StreamBody.sampleBytes, beq_iff_eq]

/-- The byte of a slot's state (R170). -/
def SlotState.byte : SlotState → Byte
  | .free => 0
  | .filling => 1
  | .filled => 2

theorem SlotState.leBytes_code (x : SlotState) : leBytes 1 x.code = [x.byte] := by
  cases x <;> rfl

/-- The state and counters of an enabled stream (R128). -/
theorem Stream.liveBytes_eq (x : Stream) (slotSize : Nat) :
    let flawed := (x.slots.filter fun q => q.state == .filled && q.concealed).length
    x.liveBytes slotSize
      = leBytes 4 slotSize
        ++ leBytes 1 x.writePosition ++ leBytes 1 (x.slots.filter fun q => q.state == .filled).length
        ++ orNone 1 (x.slots.findIdx? fun q => q.state == .filling) ++ flag (decide (flawed ≠ 0)) ++ leBytes 1 flawed
        ++ flag x.watermarkArmed ++ flag x.staleArmed ++ leBytes 4 x.staleCount
        ++ counters [x.filled, x.freed, x.dropped, x.overwritten, x.late, x.unmarked]
        ++ x.slots.map fun q => q.state.byte := by
  intro flawed
  rw [List.map_eq_flatMap]
  simp only [Stream.liveBytes, Stream.filledCount, Stream.fillingSlot, Stream.flawedCount, List.countP_eq_length_filter,
    optionBytes_eq, SlotState.leBytes_code, counters, List.flatMap_cons, List.flatMap_nil, List.append_nil,
    List.append_assoc]
  rfl

/-- GetStreams (R128). -/
theorem Stream.bytes_eq (x : Stream) (record : Option SessionRecord) :
    x.bytes (record.map fun r => r.blockSize) = streamReport record x := by
  unfold Stream.bytes streamReport
  cases x.record with
  | none => rfl
  | some b =>
    have henabled : (b.isEnabled = true) = (b.enabled = 1) := propext beq_iff_eq
    cases record with
    | none =>
      simp only [henabled, Stream.liveBytes_eq, streamRecordBytes, List.append_assoc]
      rfl
    | some r =>
      simp only [henabled, Stream.liveBytes_eq, streamRecordBytes, List.append_assoc, Option.map_some, slotSize_eq]
      rfl

theorem ArchiveWriter.openEntry_eq (w : ArchiveWriter) :
    w.openEntry = (w.segments.findIdx? fun x => x.state == .opened).bind fun i => w.segments[i]? := by
  rw [ArchiveWriter.openEntry, ArchiveWriter.openSegment, ArchiveWriter.lowest]
  cases w.segments.findIdx? fun x => x.state == .opened with
  | none => rfl
  | some i => exact ArchiveWriter.segment_succ w i

theorem ArchiveWriter.writePosition_eq (w : ArchiveWriter) : w.writePosition = w.openEntry.map fun x => x.used := by
  rw [ArchiveWriter.writePosition, ArchiveWriter.openEntry, Option.map_bind]
  rfl

/-- The bytes of the data segments, in segment order (R173). -/
theorem segmentBytes_eq (w : ArchiveWriter) (queue : List Inserted) :
    ((List.range w.segments.length).flatMap fun i => match w.segments[i]? with
      | some x => segmentByte x (w.recordPending queue (i + 1))
      | none => [])
      = w.segments.zipIdx.flatMap fun p => segmentByte p.1 (recordWaits w queue (p.2 + 1)) := by
  refine (flatMap_range_eq_zipIdx (fun x i => match x with
    | some x => segmentByte x (w.recordPending queue (i + 1))
    | none => []) _).trans (List.flatMap_congr fun p _ => ?_)
  rw [← ArchiveWriter.recordPending_eq]

/-- GetArchive (R111). -/
theorem archiveBody_eq (s : State) : s.archiveBody = archiveReport s := by
  unfold State.archiveBody archiveReport
  refine congrArg₂ (· ++ ·) ?_ (segmentBytes_eq s.aw s.path.queues.archive)
  simp only [Area.bytes, ArchiveCounters.bytes, counters, ArchiveWriter.freeCount, List.countP_eq_length_filter,
    optionBytes_eq, ArchiveWriter.writePosition_eq, ← ArchiveWriter.openEntry_eq, List.flatMap_cons, List.flatMap_nil,
    List.append_nil, List.append_assoc]
  cases s.aw.openEntry with
  | none => rfl
  | some x => 
    simp only [Option.map_some, List.append_assoc]
    rfl

theorem tracksBody_eq (s : State) (first count : Nat) :
    s.tracksBody first count
      = [BitVec.ofNat 8 (min count (128 - first))] ++ (List.range (min count (128 - first))).flatMap fun i =>
          trackReport (s.tracks.getD (first + i) Track.reset) s.cmd.taken (first + i) := by
  simp only [State.tracksBody, trackSpan, Track.bytes_eq]
  rfl

theorem windowsBody_eq (s : State) :
    s.windowsBody = s.sess.windows.zipIdx.flatMap fun (x, w) => windowReport x s.cmd.taken w := by
  refine (flatMap_range_eq_zipIdx (fun x w => (x.getD Window.unloaded).bytes s.cmd.taken w) _).trans ?_
  exact List.flatMap_congr fun p _ => p.1.bytes_eq s.cmd.taken p.2

theorem metersBody_eq (s : State) : s.metersBody = s.buses.flatMap busReport :=
  List.flatMap_congr fun b _ => b.bytes_eq

theorem streamsBody_eq (s : State) : s.streamsBody = s.sw.streams.flatMap (streamReport s.sess.record) :=
  List.flatMap_congr fun x _ => x.bytes_eq s.sess.record

/-! ### The lengths of the reports -/

theorem sessionReport_length (s : State) : (sessionReport s).length = 123 + 4 * s.path.mirrorLoss.length := by
  unfold sessionReport
  cases s.sess.record <;> cases s.cmd.openSequence <;> simp <;> omega

theorem windowReport_length (x : Window) (take w : Nat) : (windowReport x take w).length = 61 := by
  unfold windowReport
  cases x.record with
  | none => rfl
  | some r => cases hmirror : r.mirror <;> simp [hmirror]

theorem busReport_length (b : Bus) : (busReport b).length = 16 := by
  simp [busReport]

theorem streamReport_length (record : Option SessionRecord) (x : Stream) :
    (streamReport record x).length = 72 + if (Spec.enabledRecord x).isSome then x.slots.length else 0 := by
  unfold streamReport Spec.enabledRecord
  cases x.record with
  | none => rfl
  | some b =>
    by_cases henabled : b.enabled = 1
    · simp [henabled]
      omega
    · have hoff : ¬ b.enabled = 1#8 := henabled
      simp [hoff]

theorem archiveReport_length (s : State) : (archiveReport s).length = 82 + s.aw.segments.length := by
  have hsegments : ∀ g : Segment × Nat → Nat,
      (s.aw.segments.zipIdx.flatMap fun p => leBytes 1 (g p)).length = s.aw.segments.length := by
    intro g
    rw [flatMap_length _ 1 _ fun p _ => leBytes_length 1 (g p), List.length_zipIdx, one_mul]
  unfold archiveReport
  rw [List.length_append, hsegments]
  cases s.aw.area <;>
    cases (s.aw.segments.findIdx? fun x => x.state == .opened).bind fun i => s.aw.segments[i]? <;> simp

/-! ### The GET functions -/

theorem taken_taken (s : State) (seq : Byte) (fn : Function) : (taken s seq fn).cmd.taken = satInc s.cmd.taken := by
  unfold taken takenWith
  split <;> rfl

theorem taken_failReason (s : State) (seq : Byte) (fn : Function) :
    (taken s seq fn).cmd.failReason = s.cmd.failReason := by
  unfold taken takenWith
  split <;> rfl

theorem taken_mirrorLoss (s : State) (seq : Byte) (fn : Function) :
    (taken s seq fn).path.mirrorLoss = s.path.mirrorLoss := by
  unfold taken takenWith
  split <;> rfl

/-- A function without checks that keeps the working command is answered DONE. -/
theorem State.execute_done {s t : State} {run : State → State × Reply} {body : List Byte}
    (hw : s.cmd.working ≠ none) (hrun : run s = (t, .done body)) (hcmd : t.cmd.working = s.cmd.working) :
    s.execute run = done t body := by
  rw [State.execute, hrun]
  exact State.answer_done (by rwa [hcmd]) body

/-- Such a function, taken in READY. -/
theorem State.takeFunction_done {s t : State} {seq : Byte} (h : Reaches s seq) (fn : Function)
    {run : State → State × Reply} {body : List Byte} (hrun : run (taken s seq fn) = (t, .done body))
    (hcmd : t.cmd.working = (taken s seq fn).cmd.working) : s.takeFunction seq fn run = done t body :=
  (State.takeFunction_of_reaches h fn run).trans (State.execute_done (taken_working s seq fn) hrun hcmd)

/-- Settles O29: the five status queries, their bodies and their lengths. -/
theorem statusQueriesAnswerAndClear : Obligations.StatusQueriesAnswerAndClear := by
  unfold Obligations.StatusQueriesAnswerAndClear
  intro s seq hreach u v streams
  refine ⟨?_, ?_, ?_, fun hmirror => ?_, ?_, ?_, ?_, ?_⟩
  · refine congrArg Host.Outcome.next (State.takeFunction_done hreach .getSession ?_ rfl)
    exact congrArg (Prod.mk _ ∘ Reply.done) (sessionBody_eq _)
  · refine congrArg Host.Outcome.next (State.takeFunction_done hreach .getStreams ?_ rfl)
    rw [State.getStreams, streamsBody_eq, taken_sw, taken_sess]
  · refine congrArg Host.Outcome.next (State.takeFunction_done hreach .getArchive ?_ rfl)
    exact congrArg (Prod.mk _ ∘ Reply.done) (archiveBody_eq _)
  · rw [sessionReport_length, taken_mirrorLoss, hmirror]
  · rw [archiveReport_length, taken_aw]
  · rw [List.length_flatMap]
    exact congrArg List.sum (List.map_congr_left fun x _ => streamReport_length _ x)
  · refine congrArg Host.Outcome.next (State.takeFunction_done hreach .getFailReason ?_ rfl)
    rw [State.getFailReason, taken_failReason]
    rfl
  · refine congrArg Host.Outcome.next (State.takeFunction_done hreach .getResetCause ?_ rfl)
    rw [State.getResetCause, taken_causes]
    rfl

/-- The checks of R38 in order, and the report. -/
theorem State.execute_getTracks {s : State} (hw : s.cmd.working ≠ none) (first count : Byte) :
    s.execute (fun x => x.getTracks first count)
      = if 127 < first.toNat then refused s .badValue
        else if count = 0 ∨ 24 < count.toNat then refused s .badValue
        else done s (s.tracksBody first.toNat count.toNat) := by
  have hcount : count = 0 ↔ count.toNat = 0 := by rw [BitVec.toNat_eq]; rfl
  refine State.answer_checked_cons hw ?_ _ ?_
  · rw [decide_eq_true_iff, not_lt]
  refine State.answer_checked_cons hw ?_ _ ?_
  · rw [decide_eq_true_iff, hcount]
    omega
  exact State.answer_checked_nil hw rfl _

/-- Settles O30: the range checks, and the entries up to track 127. -/
theorem getTracksResult : Obligations.GetTracksResult := by
  unfold Obligations.GetTracksResult
  intro s seq first count hreach u n
  have hrun := State.execute_getTracks (taken_working s seq .getTracks) first count
  rw [tracksBody_eq, taken_tracks, taken_taken] at hrun
  exact congrArg Host.Outcome.next ((State.takeFunction_of_reaches hreach _ _).trans hrun)

/-- Settles O31: the reports of what stood, and the flags and meters cleared. -/
theorem windowAndMeterQueriesReportAndClear : Obligations.WindowAndMeterQueriesReportAndClear := by
  unfold Obligations.WindowAndMeterQueriesReportAndClear
  intro s seq hreach u v windows
  refine ⟨?_, fun hlength => ?_, ?_, fun hlength => ?_⟩
  · refine congrArg Host.Outcome.next (State.takeFunction_done hreach .getWindows ?_ rfl)
    rw [State.getWindows, windowsBody_eq, taken_sess, taken_taken]
    rfl
  · rw [flatMap_length _ 61 _ fun p _ => windowReport_length p.1 _ p.2, List.length_zipIdx, hlength]
  · refine congrArg Host.Outcome.next (State.takeFunction_done hreach .getMeters ?_ rfl)
    rw [State.getMeters, metersBody_eq, taken_buses]
    rfl
  · rw [flatMap_length _ 16 _ fun b _ => busReport_length b, hlength]

end Sys2Proof.Machine
end

section
/-! The path (R131 to R142): arrival, eligibility and grants, requests that are only forwarded, refusals by the guard,
completions, and the lines that the part inserts. -/

namespace Sys2Proof.Machine

open Sys2Proof.Spec

/-! ### Arrival (R131, R132) -/

/-- The bytes of a line, byte `k` from bit `8k` on. -/
theorem lineBytes_eq (data : BitVec 512) :
    lineBytes data = (List.range 64).map fun k => data.extractLsb' (8 * k) 8 := by
  rw [lineBytes, leBytes_eq_map]
  refine List.map_congr_left fun k _ => ?_
  rw [BitVec.extractLsb', Nat.shiftRight_eq_div_pow, pow_mul]
  rfl

theorem lineAddress_eq (addr : BitVec 40) : lineAddress addr = 64 * (addr.toNat / 64) := Nat.mul_comm _ _

/-- A request that arrives where nothing waits at the port, or the forward queue is full. -/
theorem PathUnit.arrive_eq {u : PathUnit} (h : u.waiting = [] ∨ 32 ≤ u.forward.length) (addr : Nat)
    (write : Option WriteData) (tag : BitVec 4) :
    let r : Passing := ⟨u.nextOrder, addr, tag, write⟩
    u.arrive addr write tag
      = { u with
          nextOrder := u.nextOrder + 1
          forward := if u.forward.length < 32 then u.forward ++ [r] else u.forward
          waiting := if u.forward.length < 32 then [] else u.waiting ++ [r] } := by
  intro r
  by_cases hroom : u.forward.length < 32
  · have hwaiting : u.waiting = [] := h.resolve_right (by omega)
    obtain ⟨k, hk⟩ : ∃ k, 32 - u.forward.length = k + 1 := ⟨31 - u.forward.length, by omega⟩
    simp [PathUnit.arrive, PathUnit.takeIn, forwardQueueSize, hwaiting, hk, hroom, r]
  · have hfull : 32 - u.forward.length = 0 := by omega
    simp [PathUnit.arrive, PathUnit.takeIn, forwardQueueSize, hfull, hroom, r]

/-- Settles O34: both arrivals, by the room of the forward queue. -/
theorem arrivingRequestTakesTheNextOrder : Obligations.ArrivingRequestTakesTheNextOrder := by
  unfold Obligations.ArrivingRequestTakesTheNextOrder
  intro s addr data mask tag hsettled hport bytes arrived
  have harrive : ∀ write, (quiet s).setPath ((quiet s).path.arrive (lineAddress addr) write tag) = arrived write := by
    intro write
    rw [lineAddress_eq]
    exact congrArg (fun p => { quiet s with path := p }) (PathUnit.arrive_eq hport _ write tag)
  constructor
  · refine congrArg Host.Outcome.next ?_
    rw [State.ready_of_settled hsettled, harrive, lineBytes_eq]
  · refine congrArg Host.Outcome.next ?_
    rw [State.ready_of_settled hsettled, harrive]

/-! ### Eligibility and grants (R132, R139, R140) -/

theorem mem_producers (p : Producer) : p ∈ Producer.all := by
  cases p <;> simp [Producer.all]

theorem PathUnit.isEligible_iff (u : PathUnit) (addr order : Nat) :
    u.isEligible addr order = true ↔ Eligible u addr order := by
  have hpassing : ∀ l : List Passing, (!(l.any fun r => r.addr == addr && decide (r.order < order))) = true
      ↔ ∀ r ∈ l, r.addr = addr → order ≤ r.order := by
    simp
  have hhazards : (!(u.hazards.any fun h => h.1 == addr && decide (h.2 < order))) = true
      ↔ ∀ p, ∀ l ∈ u.queues.get p, l.addr = addr → order ≤ l.order := by
    simp [PathUnit.hazards, mem_producers]
  rw [PathUnit.isEligible, Bool.and_eq_true, Bool.and_eq_true, hpassing, hpassing, hhazards, Eligible,
    List.forall_mem_append]

theorem PathUnit.headEligible_iff (u : PathUnit) :
    u.headEligible = true ↔ ∃ r rest, u.forward = r :: rest ∧ Eligible u r.addr r.order := by
  unfold PathUnit.headEligible
  cases hforward : u.forward with
  | nil => simp
  | cons r rest => simp [PathUnit.isEligible_iff]

/-- Producer `p` may be granted before the ready producers of a list (R140). -/
def PathUnit.Leads (u : PathUnit) (p : Producer) (l : List Producer) : Prop :=
  ∀ q ∈ l, u.levels.get q < u.levels.get p ∨ (u.levels.get q = u.levels.get p ∧ rank p ≤ rank q)

/-- The higher of two levels, the earlier producer at the same one. -/
def PathUnit.prefer (u : PathUnit) (best : Option Producer) (p : Producer) : Option Producer :=
  match best with
  | none => some p
  | some q => if u.levels.get q < u.levels.get p then some p else some q

theorem PathUnit.foldl_prefer (u : PathUnit) (l : List Producer) (best : Producer)
    (horder : (best :: l).Pairwise fun p q => rank p < rank q) :
    ∃ p ∈ best :: l, l.foldl u.prefer (some best) = some p ∧ u.Leads p (best :: l) := by
  induction l generalizing best with
  | nil => exact ⟨best, List.mem_singleton_self _, rfl, by simp [PathUnit.Leads]⟩
  | cons q l ih =>
    obtain ⟨hbest, hrest⟩ := List.pairwise_cons.mp horder
    obtain ⟨hq, hl⟩ := List.pairwise_cons.mp hrest
    have hbestq := hbest q List.mem_cons_self
    by_cases hlevel : u.levels.get best < u.levels.get q
    · obtain ⟨p, hp, hfold, hleads⟩ := ih q hrest
      refine ⟨p, List.mem_cons_of_mem _ hp, by rw [List.foldl_cons, PathUnit.prefer, if_pos hlevel, hfold], ?_⟩
      have hpq := hleads q List.mem_cons_self
      exact List.forall_mem_cons.mpr ⟨by omega, hleads⟩
    · obtain ⟨p, hp, hfold, hleads⟩ :=
        ih best (List.pairwise_cons.mpr ⟨fun x hx => hbest x (List.mem_cons_of_mem _ hx), hl⟩)
      have hpbest := hleads best List.mem_cons_self
      refine ⟨p, ?_, by rw [List.foldl_cons, PathUnit.prefer, if_neg hlevel, hfold], ?_⟩
      · rcases List.mem_cons.mp hp with rfl | hp
        · exact List.mem_cons_self
        · exact List.mem_cons_of_mem _ (List.mem_cons_of_mem _ hp)
      · exact List.forall_mem_cons.mpr ⟨hpbest, List.forall_mem_cons.mpr ⟨by omega, fun x hx => hleads x (List.mem_cons_of_mem _ hx)⟩⟩

theorem PathUnit.choose_eq_foldl (u : PathUnit) : u.choose = (Producer.all.filter u.isReady).foldl u.prefer none := rfl

/-- R140: nothing is chosen where no queue is ready; otherwise a ready queue that leads the ready ones. -/
theorem PathUnit.choose_spec (u : PathUnit) :
    (u.choose = none ∧ ∀ p, u.isReady p = false)
      ∨ ∃ p, u.choose = some p ∧ u.isReady p = true ∧ u.Leads p (Producer.all.filter u.isReady) := by
  have horder : (Producer.all.filter u.isReady).Pairwise fun p q => rank p < rank q :=
    List.Pairwise.filter _ (by decide)
  rw [PathUnit.choose_eq_foldl]
  cases hready : Producer.all.filter u.isReady with
  | nil =>
    rw [List.filter_eq_nil_iff] at hready
    exact .inl ⟨rfl, fun p => eq_false_of_ne_true (hready p (mem_producers p))⟩
  | cons p l =>
    rw [hready] at horder
    obtain ⟨q, hq, hfold, hleads⟩ := u.foldl_prefer l p horder
    rw [← hready] at hq
    exact .inr ⟨q, hfold, (List.mem_filter.mp hq).2, hleads⟩

theorem rank_injective {p q : Producer} (h : rank p = rank q) : p = q := by
  cases p <;> cases q <;> first | rfl | cases h

/-- R139: the port is granted to passing traffic. -/
theorem PathUnit.grant_passing_iff (u : PathUnit) : u.grant = .passing ↔ GrantsPassing u := by
  have hready : (∀ p ∈ Producer.all, u.isReady p = false) ↔ ∀ p, u.isReady p = false :=
    ⟨fun h p => h p (mem_producers p), fun h p _ => h p⟩
  rw [GrantsPassing, hready]
  unfold PathUnit.grant
  rcases u.choose_spec with ⟨hnone, hall⟩ | ⟨p, hsome, hp, -⟩
  · rw [hnone]
    cases u.headEligible <;> simp [hall]
  · have hnot : ¬ ∀ p, u.isReady p = false := fun h => by simp [h p] at hp
    rw [hsome]
    cases u.headEligible <;> simp [hnot]

/-- R139, R140: the port is granted to the head line of a queue. -/
theorem PathUnit.grant_inserted_iff (u : PathUnit) (p : Producer) : u.grant = .inserted p ↔ GrantsInserted u p := by
  have hleads : ∀ q, u.Leads q (Producer.all.filter u.isReady) ↔ ∀ x ∈ Producer.all, u.isReady x = true →
      u.levels.get x < u.levels.get q ∨ (u.levels.get x = u.levels.get q ∧ rank q ≤ rank x) := by
    intro q
    simp only [PathUnit.Leads, List.mem_filter, and_imp]
  rw [GrantsInserted, ← hleads]
  unfold PathUnit.grant
  rcases u.choose_spec with ⟨hnone, hall⟩ | ⟨q, hsome, hq, hqleads⟩
  · rw [hnone]
    cases u.headEligible <;> simp [hall]
  · have hunique : u.isReady p = true → u.Leads p (Producer.all.filter u.isReady) → q = p := by
      intro hp hpleads
      have hqp := hqleads p (List.mem_filter.mpr ⟨mem_producers p, hp⟩)
      have hpq := hpleads q (List.mem_filter.mpr ⟨mem_producers q, hq⟩)
      exact rank_injective (by omega)
    have hiff : q = p ↔ u.isReady p = true ∧ u.Leads p (Producer.all.filter u.isReady) :=
      ⟨fun h => h ▸ ⟨hq, hqleads⟩, fun h => hunique h.1 h.2⟩
    rw [hsome]
    cases u.headEligible with
    | false => simpa using hiff
    | true =>
      by_cases hshare : u.share < u.shareLimit
      · simp [hshare]
      · simpa [hshare, Nat.le_of_not_lt hshare] using hiff

/-- The head line of a queue is ready (R137, R147). -/
theorem PathUnit.isReady_iff_eligible (u : PathUnit) (p : Producer) :
    u.isReady p = true ↔ ∃ l rest, u.queues.get p = l :: rest ∧ Eligible u l.addr l.order
      ∧ (u.abandonedFirst = true → p = .response) := by
  have hfirst : (u.abandonedFirst = false ∨ p = .response) ↔ (u.abandonedFirst = true → p = .response) := by
    cases u.abandonedFirst <;> simp
  rw [PathUnit.isReady_iff, hfirst]
  simp only [PathUnit.isEligible_iff]

/-! ### The take of the head request (R131, R134, R139) -/

/-- The row takes the head request where the grant is its own. -/
theorem exec_passingRequestTake {s : State} {r : Passing} {rest : List Passing} (hsettled : Settled s)
    (hforward : s.path.forward = r :: rest) (hgrant : s.straps.passOnly = true ∨ GrantsPassing s.path) :
    exec .passingRequestTake s = .next ((quiet s).takeHead r) := by
  have hexec : exec .passingRequestTake s = execPassingRequestTake s := rfl
  have htakes : ((quiet s).straps.passOnly || (quiet s).path.grant == .passing) = true := by
    rw [Bool.or_eq_true, beq_iff_eq]
    exact hgrant.imp_right s.path.grant_passing_iff.mpr
  rw [hexec, execPassingRequestTake, State.ready_of_settled hsettled]
  simp only [hforward, htakes, if_true]

/-- The row does nothing where it has no head request, or the grant is not its own. -/
theorem exec_passingRequestTake_idle {s : State} (hsettled : Settled s)
    (h : s.path.forward = [] ∨ (s.straps.passOnly = false ∧ ¬ GrantsPassing s.path)) :
    exec .passingRequestTake s = .next (quiet s) := by
  have hexec : exec .passingRequestTake s = execPassingRequestTake s := rfl
  rw [hexec, execPassingRequestTake, State.ready_of_settled hsettled]
  cases hforward : s.path.forward with
  | nil => simp only
  | cons r rest =>
    obtain ⟨hactive, hgrant⟩ := h.resolve_left (by rw [hforward]; exact List.cons_ne_nil r rest)
    rw [← PathUnit.grant_passing_iff] at hgrant
    have htakes : ((quiet s).straps.passOnly || (quiet s).path.grant == .passing) = false := by
      rw [Bool.or_eq_false_iff, beq_eq_false_iff_ne]
      exact ⟨hactive, hgrant⟩
    simp only [htakes, Bool.false_eq_true, if_false]

theorem State.forwardHead_eq (s : State) (r : Passing) : (quiet s).forwardHead r = forwarded s r := by
  have hshare : (if s.straps.passOnly = true then s.path.share
        else if s.path.share < s.path.shareLimit then s.path.share + 1 else s.path.share)
      = if s.straps.passOnly = true ∨ s.path.shareLimit ≤ s.path.share then s.path.share else s.path.share + 1 := by
    grind
  have hpath : s.path.dropHead.recordPassing r s.straps.passOnly = (forwarded s r).path :=
    congrArg (fun n : Nat => ({ headLeft s.path with
      outstanding := s.path.outstanding ++ [⟨r.order, .passing r.tag, r.write.isSome, r.addr⟩]
      share := n } : PathUnit)) hshare
  exact congrArg (fun p : PathUnit => ({ s with ports := ⟨some ⟨r.addr, r.write, r.tag⟩, none, false⟩, path := p } : State))
    hpath

theorem Straps.responseSlot_contains (s : State) (addr : Nat) :
    s.straps.responseSlot.contains addr = true ↔ InResponseSlot s addr := by
  rw [Region.contains, Bool.and_eq_true, decide_eq_true_iff, decide_eq_true_iff]
  simp only [Straps.responseSlot, Straps.commandBase, InResponseSlot]

theorem Straps.commandSlot_contains (s : State) (addr : Nat) :
    s.straps.commandSlot.contains addr = true ↔ InCommandSlot s addr := by
  rw [Region.contains, Bool.and_eq_true, decide_eq_true_iff, decide_eq_true_iff]
  exact Iff.rfl

/-- The target of a refusal outside the Response Slot (R135). -/
theorem guardTarget_of_apart {s : State} (hactive : s.straps.passOnly = false) {addr : Nat}
    (hresponse : ¬ InResponseSlot s addr) : s.guardTarget addr = s.aw.guards addr := by
  rw [State.guardTarget, hactive, if_neg Bool.false_ne_true, if_neg]
  rwa [Straps.responseSlot_contains]

theorem State.takeHead_of_passOnly {s : State} (h : s.straps.passOnly = true) (r : Passing) :
    (quiet s).takeHead r = forwarded s r := by
  rw [State.takeHead, if_pos (show (quiet s).straps.passOnly = true from h), State.forwardHead_eq]

/-- A read is forwarded and handed to its owners. -/
theorem State.takeHead_of_read {s : State} (h : s.straps.passOnly = false) {r : Passing} (hread : r.write = none) :
    (quiet s).takeHead r = (forwarded s r).ownRead r.addr := by
  rw [State.takeHead, if_neg (by simpa [quiet] using h), State.forwardHead_eq]
  simp only [hread, State.own]

/-- A write that no guard set holds is forwarded and handed to its owners. -/
theorem State.takeHead_of_write {s : State} (h : s.straps.passOnly = false) {r : Passing} {d : WriteData}
    (hwrite : r.write = some d) (hresponse : ¬ InResponseSlot s r.addr) (hguard : s.aw.guards r.addr = none) :
    (quiet s).takeHead r = (forwarded s r).ownWrite r.addr d := by
  have htarget : (quiet s).guardTarget r.addr = none := (guardTarget_of_apart h hresponse).trans hguard
  rw [State.takeHead, if_neg (by simpa [quiet] using h), State.forwardHead_eq, htarget]
  simp only [hwrite, State.own]

/-- A write that a guard set holds is refused. -/
theorem State.takeHead_of_guarded {s : State} (h : s.straps.passOnly = false) {r : Passing} {d : WriteData} {t : Nat}
    (hwrite : r.write = some d) (htarget : s.guardTarget r.addr = some t) :
    (quiet s).takeHead r = (quiet s).refuseHead r t := by
  have htarget' : (quiet s).guardTarget r.addr = some t := htarget
  rw [State.takeHead, if_neg (by simpa [quiet] using h), htarget']
  simp only [hwrite]

theorem State.ownRead_of_none {s : State} {addr : Nat} (h : s.streamsAt addr = []) : s.ownRead addr = s := by
  rw [State.ownRead, h]
  rfl

theorem State.ownWrite_of_none {s : State} {addr : Nat} (hwindows : s.sess.windowsAt addr = [])
    (hcommand : ¬ InCommandSlot s addr) (d : WriteData) : s.ownWrite addr d = s := by
  rw [State.ownWrite, hwindows, if_neg (by rwa [Straps.commandSlot_contains])]
  rfl

/-! ### Requests in no region (R134) -/

theorem getD_mem {α : Type} {l : List α} {n : Nat} (h : n < l.length) {d : α} : l.getD n d ∈ l := by
  rw [List.getD_eq_getElem l d h]
  exact List.getElem_mem h

section noRegion

variable {s : State} {addr : Nat} (h : ∀ q ∈ s.regions, ¬ (q.base ≤ addr ∧ addr < q.base + q.length))
include h

theorem not_contains_of_no_region {q : Region} (hq : q ∈ s.regions) : ¬ q.contains addr = true := by
  rw [Region.contains, Bool.and_eq_true, decide_eq_true_iff, decide_eq_true_iff]
  exact h q hq

theorem slots_of_no_region : ¬ InCommandSlot s addr ∧ ¬ InResponseSlot s addr := by
  have harea := h s.straps.commandArea (by simp [State.regions, State.regionsButReports])
  simp only [Straps.commandArea, Straps.commandBase] at harea
  constructor
  · intro hslot
    omega
  · intro hslot
    omega

theorem guards_of_no_region : s.aw.guards addr = none := by
  unfold ArchiveWriter.guards
  cases harea : s.aw.area with
  | none => rfl
  | some a =>
    have hmem : a.region ∈ s.regions := by simp [State.regions, State.regionsButReports, harea]
    exact if_neg (not_contains_of_no_region h hmem)

theorem windowsAt_of_no_region : s.sess.windowsAt addr = [] := by
  rw [SessionControl.windowsAt, List.filter_eq_nil_iff]
  intro w hw
  cases hrecord : (s.sess.window w).record with
  | none => simp
  | some r =>
    have hmem : r.region s.sess.blockSize ∈ s.regions := by
      have hrecords : r ∈ s.sess.windows.filterMap fun x => x.record :=
        List.mem_filterMap.mpr ⟨_, getD_mem (List.mem_range.mp hw), hrecord⟩
      simp only [State.regions, State.regionsButReports, List.mem_append, List.mem_map]
      exact .inl (.inl (.inl (.inl (.inr ⟨r, hrecords, rfl⟩))))
    exact not_contains_of_no_region h hmem

theorem streamsAt_of_no_region : s.streamsAt addr = [] := by
  rw [State.streamsAt, List.filter_eq_nil_iff]
  intro k hk
  cases hrecord : (s.sw.streams.getD k Stream.reset).enabledRecord with
  | none => simp
  | some b =>
    have hmem : b.region s.sess.blockSize ∈ s.regions := by
      have hring : b.region s.sess.blockSize ∈ s.sw.streams.filterMap fun x =>
          x.enabledRecord.map fun b => b.region s.sess.blockSize :=
        List.mem_filterMap.mpr ⟨_, getD_mem (List.mem_range.mp hk), by rw [hrecord, Option.map_some]⟩
      simp only [State.regions, State.regionsButReports, List.mem_append]
      exact .inl (.inr hring)
    exact not_contains_of_no_region h hmem

end noRegion

/-- Settles O35: what makes the head eligible, the row without a grant, and requests without an acting owner. -/
theorem unownedRequestIsOnlyForwarded : Obligations.UnownedRequestIsOnlyForwarded := by
  unfold Obligations.UnownedRequestIsOnlyForwarded
  refine ⟨PathUnit.headEligible_iff, fun s => exec_passingRequestTake_idle, fun s r rest hsettled hforward hcase => ?_⟩
  rw [exec_passingRequestTake hsettled hforward (hcase.imp_right And.left)]
  refine congrArg Host.Outcome.next ?_
  cases hpass : s.straps.passOnly with
  | true => exact State.takeHead_of_passOnly hpass r
  | false =>
    obtain ⟨-, hunowned⟩ := hcase.resolve_left (by simp [hpass])
    cases hwrite : r.write with
    | none =>
      have hstreams : s.streamsAt r.addr = [] := by
        rcases hunowned with hregion | ⟨-, hstreams⟩ | ⟨hwritten, -⟩
        · exact streamsAt_of_no_region hregion
        · exact hstreams
        · exact absurd hwrite hwritten
      rw [State.takeHead_of_read hpass hwrite]
      exact State.ownRead_of_none (s := forwarded s r) hstreams
    | some d =>
      have hnone : s.sess.windowsAt r.addr = [] ∧ s.aw.guards r.addr = none ∧ ¬ InCommandSlot s r.addr
          ∧ ¬ InResponseSlot s r.addr := by
        rcases hunowned with hregion | ⟨hread, -⟩ | ⟨-, howners⟩
        · exact ⟨windowsAt_of_no_region hregion, guards_of_no_region hregion, slots_of_no_region hregion⟩
        · rw [hwrite] at hread
          cases hread
        · exact howners
      obtain ⟨hwindows, hguard, hcommand, hresponse⟩ := hnone
      rw [State.takeHead_of_write hpass hwrite hresponse hguard]
      exact State.ownWrite_of_none (s := forwarded s r) hwindows hcommand d

/-! ### Refusals by the guard (R135, R136) -/

/-- The segment that guards a line (R96, R100). -/
theorem ArchiveWriter.guards_of_inGuardedSegment {s : State} {addr n : Nat} (h : InGuardedSegment s addr n) :
    s.aw.guards addr = some n := by
  obtain ⟨a, harea, hlow, hhigh, hcount, hguarded⟩ := h
  have hsegment : a.segmentOf addr = n := Nat.div_eq_of_lt_le (Nat.le_sub_of_add_le' hlow) (by
    rw [Area.segmentBytes]
    omega)
  have hcontains : a.region.contains addr = true := by
    have hend : (n + 1) * (a.sizeMiB * 1048576) ≤ a.count * (a.sizeMiB * 1048576) := Nat.mul_le_mul_right _ hcount
    rw [Region.contains, Area.region, Area.segmentBytes, Bool.and_eq_true, decide_eq_true_iff, decide_eq_true_iff]
    exact ⟨(Nat.le_add_right _ _).trans hlow, hhigh.trans_le (Nat.add_le_add_left hend _)⟩
  rw [ArchiveWriter.guards, Option.mem_def.mp harea]
  simp only [hcontains, if_true, hsegment]
  rcases hguarded with rfl | ⟨x, hx, hstate⟩
  · rfl
  · cases n with
    | zero => rfl
    | succ n =>
      have hfree : (x.state == .free) = false := beq_eq_false_iff_ne.mpr hstate
      rw [if_neg (Nat.succ_ne_zero n), ArchiveWriter.segment_succ, show s.aw.segments[n]? = some x from hx]
      simp only [hfree, Bool.false_eq_true, if_false]

/-- What a refusal does (R136). -/
theorem State.refuseHead_eq (s : State) (r : Passing) (target : Nat) :
    (quiet s).refuseHead r target
      = { s with
          ports := ⟨none, some ⟨r.tag, .writeRefused⟩, false⟩
          path := (headLeft s.path).countRefusal target s.ft.newest
          rw := if ⟨target, s.ft.newest⟩ ∈ s.path.guardNotes then s.rw
            else filed s.rw ⟨.guardRefusal, target, s.ft.newest, r.tag.toNat,
              if target = responseTarget then satInc s.path.responseRefusals else satInc s.path.archiveRefusals⟩ } := by
  rw [State.refuseHead, State.fileAll_eq_filedAll, PathUnit.refusalRecords]
  by_cases hnoted : ⟨target, s.ft.newest⟩ ∈ s.path.guardNotes
  · have hrecords : noted (quiet s).path.guardNotes target (quiet s).ft.newest = true := (noted_iff _ _ _).mpr hnoted
    rw [if_pos hrecords, if_pos hnoted]
    rfl
  · have hrecords : ¬ noted (quiet s).path.guardNotes target (quiet s).ft.newest = true := by
      rwa [noted_iff]
    rw [if_neg hrecords, if_neg hnoted]
    rfl

/-- Settles O36: the guard target of the line, and its refusal. -/
theorem guardedWriteIsRefused : Obligations.GuardedWriteIsRefused := by
  unfold Obligations.GuardedWriteIsRefused
  intro s r rest d hsettled hactive hforward hgrant hwrite after
  have hexec : ∀ target, s.guardTarget r.addr = some target →
      exec .passingRequestTake s = .next ((quiet s).refuseHead r target) := by
    intro target htarget
    rw [exec_passingRequestTake hsettled hforward (.inr hgrant), State.takeHead_of_guarded hactive hwrite htarget]
  constructor
  · intro hresponse
    have htarget : s.guardTarget r.addr = some responseTarget := by
      rw [State.guardTarget, hactive, if_neg Bool.false_ne_true, if_pos ((Straps.responseSlot_contains _ _).mpr hresponse)]
    rw [hexec _ htarget, State.refuseHead_eq, PathUnit.countRefusal, if_pos rfl, if_pos rfl]
    rfl
  · intro n hn hresponse hsegment
    have htarget : s.guardTarget r.addr = some n :=
      (guardTarget_of_apart hactive hresponse).trans (ArchiveWriter.guards_of_inGuardedSegment hsegment)
    have hother : n ≠ responseTarget := by
      rw [responseTarget]
      omega
    rw [hexec _ htarget, State.refuseHead_eq, PathUnit.countRefusal, if_neg hother, if_neg hother]
    rfl

end Sys2Proof.Machine
end

section
/-! Completions (R133, R142) and the lines that the part inserts (R138 to R140). -/

namespace Sys2Proof.Machine

open Sys2Proof.Spec

/-! ### Completions (R133, R142) -/

theorem PathUnit.findOutstanding_of_none {u : PathUnit} {order : Nat} (h : ∀ o ∈ u.outstanding, o.order ≠ order)
    (isWrite : Bool) : u.findOutstanding order isWrite = none := by
  rw [PathUnit.findOutstanding, List.find?_eq_none]
  intro o ho
  rw [Bool.and_eq_true, beq_iff_eq]
  exact fun hboth => h o ho hboth.1

/-- The one record of an entry order is found by its own kind. -/
theorem PathUnit.findOutstanding_of_unique {u : PathUnit} {o : Outstanding} (ho : o ∈ u.outstanding)
    (hunique : ∀ x ∈ u.outstanding, x.order = o.order → x = o) : u.findOutstanding o.order o.isWrite = some o := by
  cases hfind : u.findOutstanding o.order o.isWrite with
  | none =>
    have habsent := List.find?_eq_none.mp hfind o ho
    simp at habsent
  | some x =>
    obtain ⟨hx, horder, -⟩ := PathUnit.findOutstanding_some hfind
    rw [hunique x hx horder]

/-- The kind of request that a completion answers (R133). -/
def Completion.isWrite : Completion → Bool
  | .writeDone | .writeRefused => true
  | .readData _ | .readRefused => false

theorem State.complete_of_none {s : State} {order : Nat} (h : ∀ o ∈ s.path.outstanding, o.order ≠ order)
    (c : Completion) : s.complete order c = s := by
  cases c <;> simp only [State.complete, PathUnit.findOutstanding_of_none h]

/-- The completion of a passing request goes upstream by its tag, and its record ends. -/
theorem State.complete_of_passing {s : State} {c : Completion} {o : Outstanding} {tag : BitVec 4}
    (hfind : s.path.findOutstanding o.order c.isWrite = some o) (horigin : o.origin = .passing tag) :
    s.complete o.order c
      = { s with ports := ⟨none, some ⟨tag, c⟩, false⟩, path := s.path.endOutstanding o.order } := by
  cases c <;> (rw [Completion.isWrite] at hfind; simp only [State.complete, hfind, horigin, State.setPorts, State.setPath])

/-- The record of an inserted line that memory took ends. -/
theorem State.complete_of_inserted_done {s : State} {o : Outstanding} {p : Producer}
    (hfind : s.path.findOutstanding o.order true = some o) (horigin : o.origin = .inserted p) :
    s.complete o.order .writeDone = { s with path := s.path.endOutstanding o.order } := by
  simp only [State.complete, hfind, horigin, State.setPath]

/-- One that memory refused is counted, and recorded once between two closes. -/
theorem State.complete_of_inserted_refused {s : State} {o : Outstanding} {p : Producer}
    (hfind : s.path.findOutstanding o.order true = some o) (horigin : o.origin = .inserted p) :
    s.complete o.order .writeRefused
      = { s with
          path := (s.path.endOutstanding o.order).countError p s.ft.newest
          rw := if ⟨p.code, s.ft.newest⟩ ∈ s.path.errorNotes then s.rw
            else filed s.rw ⟨.pathError, p.code, s.ft.newest, o.addr / 64 % 4294967296,
              satInc (s.path.pathErrors.get p)⟩ } := by
  simp only [State.complete, hfind, horigin, State.setPath]
  rw [State.fileAll_eq_filedAll, PathUnit.errorRecords]
  by_cases hnoted : ⟨p.code, s.ft.newest⟩ ∈ s.path.errorNotes
  · rw [if_pos ((noted_iff _ _ _).mpr hnoted), if_pos hnoted]
    rfl
  · rw [if_neg (by rwa [noted_iff]), if_neg hnoted]
    rfl

theorem Producer.code_eq_rank (p : Producer) : p.code = rank p := by
  cases p <;> rfl

/-- Settles O37: by the origin and the kind of the outstanding record. -/
theorem completionsAreReturnedOrKept : Obligations.CompletionsAreReturnedOrKept := by
  unfold Obligations.CompletionsAreReturnedOrKept
  intro s order data hsettled ended up
  have hexec : ∀ c : Completion, Host.Outcome.next (s.ready.complete order c)
      = (.next ((quiet s).complete order c) : Host.Outcome State Fault Refusal) :=
    fun c => by rw [State.ready_of_settled hsettled]
  refine ⟨fun hnone => ?_, fun o ho horder hunique => ?_⟩
  · have hkeep : ∀ c, Host.Outcome.next (s.ready.complete order c)
        = (.next (quiet s) : Host.Outcome State Fault Refusal) :=
      fun c => (hexec c).trans (congrArg Host.Outcome.next (State.complete_of_none (s := quiet s) hnone c))
    exact ⟨hkeep _, hkeep _, hkeep _, hkeep _⟩
  · subst horder
    have hfind : (quiet s).path.findOutstanding o.order o.isWrite = some o :=
      PathUnit.findOutstanding_of_unique ho hunique
    have hup : ∀ tag (c : Completion), o.origin = .passing tag → o.isWrite = c.isWrite →
        Host.Outcome.next (s.ready.complete o.order c)
          = (.next (up tag c) : Host.Outcome State Fault Refusal) := by
      intro tag c horigin hkind
      rw [hkind] at hfind
      exact (hexec c).trans (congrArg Host.Outcome.next (State.complete_of_passing hfind horigin))
    refine ⟨fun tag horigin hwrite => ⟨hup tag .writeDone horigin hwrite, hup tag .writeRefused horigin hwrite⟩,
      fun tag horigin hread => ⟨hup tag (.readData data) horigin hread, hup tag .readRefused horigin hread⟩,
      fun p horigin hwrite => ?_⟩
    rw [hwrite] at hfind
    refine ⟨(hexec _).trans (congrArg Host.Outcome.next (State.complete_of_inserted_done hfind horigin)),
      (hexec _).trans (congrArg Host.Outcome.next ?_)⟩
    rw [State.complete_of_inserted_refused hfind horigin, Producer.code_eq_rank, PathUnit.countError, Producer.code_eq_rank]
    rfl

end Sys2Proof.Machine
end

section
/-! The forwarding of the lines that the part inserts (R138 to R140, R167). -/

namespace Sys2Proof.Machine

open Sys2Proof.Spec

theorem Note.pulses_eq (note : Note) : note.pulses = decide (note = .record true) := by
  cases note with
  | record pulse => cases pulse <;> rfl
  | _ => rfl

/-- The part once the head line of queue `p` has been issued and its producer not yet told. -/
def issuedLine (s : State) (p : Producer) (l : Inserted) (rest : List Inserted) : State :=
  { s with
    ports := ⟨some ⟨l.addr, some l.write, 0⟩, none, decide (l.note = .record true)⟩
    path :=
      { s.path with
        queues := s.path.queues.set p rest
        outstanding := s.path.outstanding ++ [⟨l.order, .inserted p, true, l.addr⟩]
        share := 0
        abandonedFirst := if p = .response then false else s.path.abandonedFirst } }

theorem State.forwardInserted_eq {s : State} {p : Producer} {l : Inserted} {rest : List Inserted}
    (h : s.path.queues.get p = l :: rest) :
    (quiet s).forwardInserted p = (issuedLine s p l rest).reportForwarded l.note := by
  have hget : (quiet s).path.queues.get p = l :: rest := h
  simp only [State.forwardInserted, hget, PathUnit.issueInserted, Note.pulses_eq, beq_iff_eq, State.setPorts,
    State.setPath, issuedLine]

/-- The row forwards the head line of the queue that is granted. -/
theorem exec_insertedLineForward {s : State} {p : Producer} {l : Inserted} {rest : List Inserted}
    (hsettled : Settled s) (hgrant : GrantsInserted s.path p) (hqueue : s.path.queues.get p = l :: rest) :
    exec .insertedLineForward s = .next ((issuedLine s p l rest).reportForwarded l.note) := by
  have hexec : exec .insertedLineForward s = execInsertedLineForward s := rfl
  have hinserted : (quiet s).path.grant = .inserted p := (PathUnit.grant_inserted_iff _ p).mpr hgrant
  rw [hexec, execInsertedLineForward, State.ready_of_settled hsettled]
  simp only [hinserted, State.forwardInserted_eq hqueue]

/-- The row does nothing where no queue is granted. -/
theorem exec_insertedLineForward_idle {s : State} (hsettled : Settled s) (hnone : ∀ p, ¬ GrantsInserted s.path p) :
    exec .insertedLineForward s = .next (quiet s) := by
  have hexec : exec .insertedLineForward s = execInsertedLineForward s := rfl
  rw [hexec, execInsertedLineForward, State.ready_of_settled hsettled]
  cases hgrant : (quiet s).path.grant with
  | inserted p => exact absurd ((PathUnit.grant_inserted_iff _ p).mp hgrant) (hnone p)
  | passing => rfl
  | idle => rfl

/-! ### The report to the producer (R138) -/

/-- A final header line: the last one of its command brings the report of its end (R153, R154). -/
theorem State.reportForwarded_finalHeader {s : State} (hreport : s.report = none) :
    s.reportForwarded .finalHeader
      = { s with
          cmd := { s.cmd with working := s.cmd.working.map fun w => { w with finals := w.finals - 1 } }
          report := if ∀ w ∈ s.cmd.working, w.finals ≤ 1 then some .commandEnd else none } := by
  have hcmd : s.cmd.finalForwarded
      = { s.cmd with working := s.cmd.working.map fun w => { w with finals := w.finals - 1 } } := by
    unfold CommandUnit.finalForwarded
    split
    · next hworking => rw [hworking, Option.map_none, ← hworking]
    · next w hworking => rw [hworking, Option.map_some]
  have hlast : ((s.cmd.working.map fun w => { w with finals := w.finals - 1 }).all fun w => w.finals == 0) = true
      ↔ ∀ w ∈ s.cmd.working, w.finals ≤ 1 := by
    cases s.cmd.working with
    | none => simp
    | some w => simp [Nat.sub_eq_zero_iff_le]
  simp only [State.reportForwarded, hcmd, hlast, hreport, State.setCmd, State.setReport]

/-- The record of a CLOSED segment that is not settled brings the report of its settling (R99). -/
theorem State.reportForwarded_directoryRecord (s : State) (n : Nat) (state : SegState) :
    s.reportForwarded (.directoryRecord n state)
      = if state = .closed ∧ ∃ x ∈ s.aw.segment n, x.state = .closed ∧ x.settled = false then
          { s with report := some (.segmentSettled n) }
        else s := by
  have hunsettled : s.aw.isUnsettled n = true ↔ ∃ x ∈ s.aw.segment n, x.state = .closed ∧ x.settled = false := by
    unfold ArchiveWriter.isUnsettled
    cases s.aw.segment n with
    | none => simp
    | some x => simp
  simp only [State.reportForwarded, Bool.and_eq_true, beq_iff_eq, hunsettled, State.setReport]

/-- A change of one data segment, as a walk over the table. -/
theorem ArchiveWriter.modifySegment_eq (w : ArchiveWriter) (n : Nat) (f : Segment → Segment) :
    w.modifySegment n f
      = { w with segments := w.segments.zipIdx.map fun p => if p.2 + 1 = n then f p.1 else p.1 } := by
  cases n with
  | zero => simp [List.zipIdx_map_fst]
  | succ n =>
    rw [ArchiveWriter.modifySegment_succ, ← map_zipIdx_eq_modify f w.segments 0 n]
    simp only [Nat.add_zero, Nat.add_right_cancel_iff]

/-- The last line of an archive frame advances the forwarded values of its OPEN segment (R105). -/
theorem ArchiveWriter.frameForwarded_eq (w : ArchiveWriter) (n g count used : Nat) :
    w.frameForwarded n g count used
      = { w with
          segments := w.segments.zipIdx.map fun (x, i) =>
            if i + 1 = n ∧ x.state = .opened then
              { x with forwardedLast := g, forwardedCount := count, forwardedUsed := used }
            else x } := by
  rw [ArchiveWriter.frameForwarded, ArchiveWriter.modifySegment_eq]
  simp only [beq_iff_eq, ite_and]

/-- Settles O38: what makes a queue ready, the row without a grant, and the report to each producer. -/
theorem grantedLineIsForwarded : Obligations.GrantedLineIsForwarded := by
  unfold Obligations.GrantedLineIsForwarded
  refine ⟨PathUnit.isReady_iff_eligible, fun s => exec_insertedLineForward_idle,
    ?_⟩
  intro s p l rest hsettled hgrant hqueue v
  have hv : issuedLine s p l rest = v := rfl
  have hreport : v.report = none := hsettled.1
  rw [exec_insertedLineForward hsettled hgrant hqueue, hv]
  refine congrArg Host.Outcome.next ?_
  cases l.note with
  | finalHeader => exact State.reportForwarded_finalHeader hreport
  | streamHeader k slot g => rfl
  | directoryRecord n state => exact v.reportForwarded_directoryRecord n state
  | frameEnd n g count used => exact congrArg v.setAw (s.aw.frameForwarded_eq n g count used)
  | _ => rfl

end Sys2Proof.Machine
end

section
/-! The rows that the blocks take of themselves (R13, R99, R122, R153, R166): the events a forwarding report owes, and
the lines that the producers enqueue. -/

namespace Sys2Proof.Machine

open Sys2Proof.Spec

/-! ### The end of DRAINING (R13) -/

theorem StreamWriter.drained_iff (w : StreamWriter) (queue : List Inserted) :
    w.drained queue = true
      ↔ w.out = [] ∧ queue = [] ∧ ∀ x ∈ w.streams, ∀ q ∈ x.slots, q.state ≠ .filling := by
  simp [StreamWriter.drained, and_assoc]

theorem ArchiveWriter.holdsNoFrame_iff (w : ArchiveWriter) (queue : List Inserted) :
    w.holdsNoFrame queue = true
      ↔ (∀ o ∈ w.out, ∀ i, o ≠ .frame i)
        ∧ ∀ l ∈ queue, l.note ≠ .frameLine ∧ ∀ n g c u, l.note ≠ .frameEnd n g c u := by
  unfold ArchiveWriter.holdsNoFrame
  rw [Bool.and_eq_true, Bool.not_eq_true', Bool.not_eq_true', List.any_eq_false, List.any_eq_false]
  refine and_congr (forall₂_congr fun o _ => ?_) (forall₂_congr fun l _ => ?_)
  · cases o <;> simp
  · cases l.note <;> simp

theorem State.drainOver_iff (s : State) : s.drainOver = true ↔ s.sess.state = .draining ∧ Drained s := by
  rw [State.drainOver, Bool.and_eq_true, Bool.and_eq_true, Bool.and_eq_true, Bool.and_eq_true, beq_iff_eq,
    StreamWriter.drained_iff, ArchiveWriter.holdsNoFrame_iff, Option.isNone_iff_eq_none, Option.isNone_iff_eq_none,
    ArchiveWriter.openSegment_eq_none_iff, Drained]
  simp only [and_assoc]

/-- R13, R37, R109: what the end of DRAINING leaves, and Stop settled as DONE. -/
theorem State.endDraining_eq {s : State} (h : s.cmd.working ≠ none) :
    s.endDraining
      = done
          { s with
            sess := { s.sess with state := .idle, timer := none }
            tracks := s.tracks.map fun x => { x with status := .idle }
            aw := { s.aw with archiving := false, full := false, closing := none }
            rw := filed s.rw ⟨.sessionState, 0, none, 0, 4⟩ }
          [] := by
  rw [State.endDraining, State.file_eq_filed]
  exact State.answer_done (s := { s.endSession with rw := filed s.rw ⟨.sessionState, 0, none, 0, 4⟩ }) h []

/-- Settles O45: DRAINING_END acts exactly when DRAINING is over. -/
theorem drainingEndsWhenAllHasLeft : Obligations.DrainingEndsWhenAllHasLeft := by
  unfold Obligations.DrainingEndsWhenAllHasLeft
  intro s
  have hexec : exec .drainingEnd s
      = if (quiet s).drainOver = true then .next (quiet s).endDraining else .next (quiet s) := rfl
  refine ⟨fun hstate hdrained hworking => ?_, fun hnot => ?_⟩
  · rw [hexec, if_pos ((State.drainOver_iff (quiet s)).mpr ⟨hstate, hdrained⟩),
      State.endDraining_eq (s := quiet s) hworking]
  · rw [hexec, if_neg]
    rw [State.drainOver_iff]
    rintro ⟨hstate, hdrained⟩
    exact hnot.elim (fun h => h hstate) fun h => h hdrained

/-! ### The end of a command and the settling of a segment (R99, R153) -/

theorem ArchiveWriter.settle_succ {w : ArchiveWriter} {n : Nat} {x : Segment} (h : w.segments[n]? = some x) :
    w.settle (n + 1)
      = { w with
          segments := w.segments.set n { x with settled := true }
          closing := if w.closing = some (n + 1) then none else w.closing } := by
  rw [ArchiveWriter.settle, ArchiveWriter.modifySegment_succ, modify_eq_set_of_getElem? _ h]

/-- Settles O46: each row takes its own report, and no other. -/
theorem endedCommandAndSettledSegmentAreRecorded : Obligations.EndedCommandAndSettledSegmentAreRecorded := by
  unfold Obligations.EndedCommandAndSettledSegmentAreRecorded
  intro s
  have hend : exec .commandEnd s = execCommandEnd s := rfl
  have hsettle : exec .segmentSettled s = execSegmentSettled s := rfl
  rw [hend, hsettle]
  unfold execCommandEnd execSegmentSettled
  refine ⟨fun w hworking hreport => ?_, fun hreport => ?_, fun n x hreport hx => ?_, fun hreport => ?_⟩
  · simp only [State.setPorts_report, hreport, State.takeReport, State.endCommand, State.setReport_cmd,
      State.setPorts_cmd, hworking]
    rw [State.file_eq_filed]
    rfl
  · dsimp only
    split
    · next hcommand => exact absurd hcommand hreport
    · rfl
  · simp only [State.setPorts_report, hreport, State.takeReport, State.settleSegment]
    have hrecords : s.aw.settleRecords (n + 1) = [⟨.segmentClosed, n + 1, some x.last, x.count, x.used⟩] := by
      rw [ArchiveWriter.settleRecords, ArchiveWriter.segment_succ, hx]
    rw [State.fileAll_eq_filedAll, State.setReport_aw, State.setPorts_aw, ArchiveWriter.settle_succ hx, hrecords]
    rfl
  · dsimp only
    split
    · next n hsettled => exact absurd hsettled (hreport n)
    · rfl

/-! ### Lines of responses and stream frames (R122, R153) -/

/-- The next response line enters its queue while that has room. -/
theorem State.enqueueResponseLine_of_room {s : State} {l : ResponseLine} (hline : s.cmd.headLine = some l)
    (hroom : s.path.queues.response.length < 16) :
    s.enqueueResponseLine
      = { s with
          path := enqueued s.path .response (s.straps.baseSel.toNat * 16777216 + 1024 + 64 * l.index)
            ⟨l.data, fullMask⟩ l.note
          cmd := s.cmd.dropHeadLine } := by
  have hhas : s.path.hasRoom .response = true := (PathUnit.hasRoom_iff _ _).mpr hroom
  simp only [State.enqueueResponseLine, hline, hhas, if_true]
  rfl

theorem State.enqueueResponseLine_idle {s : State} (h : 16 ≤ s.path.queues.response.length ∨ s.cmd.out = []) :
    s.enqueueResponseLine = s := by
  unfold State.enqueueResponseLine
  split
  · next l hline =>
    rcases h with hfull | hout
    · exact if_neg fun hroom => Nat.not_lt.mpr hfull ((PathUnit.hasRoom_iff s.path .response).mp hroom)
    · rw [CommandUnit.headLine, hout] at hline
      cases hline
  · rfl

/-- The next stream line enters its queue while that has room. -/
theorem State.enqueueStreamLine_of_room {s : State} {l : StreamLine} (hline : s.sw.headLine = some l)
    (hroom : s.path.queues.stream.length < 32) :
    s.enqueueStreamLine
      = { s with path := enqueued s.path .stream l.addr ⟨l.data, fullMask⟩ l.note, sw := s.sw.dropHeadLine } := by
  have hhas : s.path.hasRoom .stream = true := (PathUnit.hasRoom_iff _ _).mpr hroom
  simp only [State.enqueueStreamLine, hline, hhas, if_true]
  rfl

theorem State.enqueueStreamLine_idle {s : State} (h : 32 ≤ s.path.queues.stream.length ∨ s.sw.out = []) :
    s.enqueueStreamLine = s := by
  unfold State.enqueueStreamLine
  split
  · next l hline =>
    rcases h with hfull | hout
    · exact if_neg fun hroom => Nat.not_lt.mpr hfull ((PathUnit.hasRoom_iff s.path .stream).mp hroom)
    · rw [StreamWriter.headLine, hout] at hline
      cases hline
  · rfl

/-- Settles O48: the head line of each list of work, by its kind. -/
theorem responseAndStreamLinesAreEnqueued : Obligations.ResponseAndStreamLinesAreEnqueued := by
  unfold Obligations.ResponseAndStreamLinesAreEnqueued
  intro s hsettled slot
  have hresponse : exec .responseLineEnqueue s = .next (quiet s).enqueueResponseLine :=
    congrArg (fun t : State => Host.Outcome.next t.enqueueResponseLine) (State.ready_of_settled hsettled)
  have hstream : exec .streamLineEnqueue s = .next (quiet s).enqueueStreamLine :=
    congrArg (fun t : State => Host.Outcome.next t.enqueueStreamLine) (State.ready_of_settled hsettled)
  rw [hresponse, hstream]
  refine ⟨fun hroom => ⟨fun i data rest hout => ?_, fun rest w hout hworking => ?_⟩, fun hidle => ?_,
    fun hroom o rest hout => ⟨fun data more hpayload => ?_, fun hpayload => ?_⟩, fun hidle => ?_⟩
  · have hline : (quiet s).cmd.headLine = some ⟨i, data, .responseLine⟩ := by
      simp only [CommandUnit.headLine, hout]
    rw [State.enqueueResponseLine_of_room hline hroom, CommandUnit.dropHeadLine, show (quiet s).cmd.out = _ from hout]
  · have hline : (quiet s).cmd.headLine = some ⟨0, w.finalHeader, .finalHeader⟩ := by
      simp only [CommandUnit.headLine, hout, hworking]
    rw [State.enqueueResponseLine_of_room hline hroom, CommandUnit.dropHeadLine, show (quiet s).cmd.out = _ from hout,
      show (quiet s).cmd.working = _ from hworking, Nat.mul_zero, Nat.add_zero]
    rfl
  · exact congrArg Host.Outcome.next (State.enqueueResponseLine_idle (s := quiet s) hidle)
  · have hline : (quiet s).sw.headLine = some ⟨o.addr + 64 * o.next, data, .streamPayload⟩ := by
      simp only [StreamWriter.headLine, hout, hpayload]
    rw [State.enqueueStreamLine_of_room hline hroom, StreamWriter.dropHeadLine, show (quiet s).sw.out = _ from hout]
    simp only [hpayload]
  · have hline : (quiet s).sw.headLine = some ⟨o.addr, o.header, .streamHeader o.stream o.slot o.frame⟩ := by
      simp only [StreamWriter.headLine, hout, hpayload]
    rw [State.enqueueStreamLine_of_room hline hroom, StreamWriter.dropHeadLine, show (quiet s).sw.out = _ from hout]
    simp only [hpayload]
  · exact congrArg Host.Outcome.next (State.enqueueStreamLine_idle (s := quiet s) hidle)

/-! ### Report records (R166, R177) -/

/-- The 32 bytes of a record (R177). -/
theorem Record.bytes_eq (r : Record) (serial : Nat) :
    r.bytes serial
      = leBytes 4 serial ++ leBytes 1 r.kind.code ++ leBytes 1 r.kind.classCode ++ leBytes 2 r.subject
        ++ leBytes 4 (r.frame.getD 0xFFFFFFFF) ++ leBytes 4 r.value ++ leBytes 4 r.second ++ List.replicate 12 0 := by
  have hframe : optionBytes 4 r.frame = leBytes 4 (r.frame.getD 0xFFFFFFFF) := by
    cases r.frame <;> rfl
  rw [Record.bytes, hframe]
  rfl

/-- The head record enters the Report queue while that has room. -/
theorem State.writeRecord_of_room {s : State} {c : ReportSettings} {f : FiledRecord} {rest : List FiledRecord}
    (hsettings : s.rw.settings = some c) (hqueue : s.rw.queue = f :: rest)
    (hroom : s.path.queues.report.length < 8) :
    s.writeRecord
      = { s with
          path := enqueued s.path .report ((c.base + 32 * s.rw.index) / 64 * 64)
            (recordLine (f.record.bytes s.rw.serial) s.rw.index) (.record f.pulse)
          rw := s.rw.advance c.count } := by
  have hhas : s.path.hasRoom .report = true := (PathUnit.hasRoom_iff _ _).mpr hroom
  simp only [State.writeRecord, hsettings, hqueue, hhas, if_true]
  rfl

theorem State.writeRecord_idle {s : State}
    (h : s.rw.settings = none ∨ s.rw.queue = [] ∨ 8 ≤ s.path.queues.report.length) : s.writeRecord = s := by
  unfold State.writeRecord
  split
  · next c f rest hsettings hqueue =>
    rcases h with hnone | hempty | hfull
    · rw [hsettings] at hnone
      cases hnone
    · rw [hqueue] at hempty
      cases hempty
    · exact if_neg fun hroom => Nat.not_lt.mpr hfull ((PathUnit.hasRoom_iff s.path .report).mp hroom)
  · rfl

/-- Settles O50: the head record in its half of the line, and the positions advanced. -/
theorem headRecordIsWrittenToTheRing : Obligations.HeadRecordIsWrittenToTheRing := by
  unfold Obligations.HeadRecordIsWrittenToTheRing
  intro s hsettled
  have hexec : exec .reportRecordWrite s = .next (quiet s).writeRecord :=
    congrArg (fun t : State => Host.Outcome.next t.writeRecord) (State.ready_of_settled hsettled)
  rw [hexec]
  refine ⟨?_, fun hidle => congrArg Host.Outcome.next (State.writeRecord_idle (s := quiet s) hidle)⟩
  intro c f rest hsettings hqueue hroom bytes half
  have hserial : satInc s.rw.serial = if s.rw.serial < 4294967295 then s.rw.serial + 1 else s.rw.serial := rfl
  rw [State.writeRecord_of_room (s := quiet s) hsettings hqueue hroom, Record.bytes_eq, recordLine, ReportWriter.advance, ← hserial]
  simp only [hqueue, List.tail_cons]
  rfl

/-! ### Reads of a stream ring (R116, R123, R126) -/

theorem Slot.mark_read (q : Slot) (line : Nat) :
    q.mark line = { q with read := if line ∈ q.read then q.read else q.read ++ [line] } := by
  unfold Slot.mark
  by_cases h : line ∈ q.read
  · simp [h]
  · simp [h]

theorem Slot.isCovered_iff (q : Slot) (lines : Nat) : q.isCovered lines = true ↔ ∀ j < lines, j ∈ q.read := by
  simp [Slot.isCovered]

/-- A passing read of a line of a slot. -/
theorem Stream.readLine_eq (x : Stream) (b : StreamBody) (lines slot line : Nat) :
    let old := x.slots.getD slot ⟨.free, [], false⟩
    let marks := if line ∈ old.read then old.read else old.read ++ [line]
    let freed := x.slots.set slot ⟨.free, [], false⟩
    x.readLine b lines slot line
      = if old.state ≠ .filled then
          { x with staleCount := 0, staleArmed := true, unmarked := satInc x.unmarked }
        else if ∀ j < lines, j ∈ marks then
          { x with
            staleCount := 0, staleArmed := true, slots := freed, freed := satInc x.freed
            watermarkArmed := x.watermarkArmed ||
              decide ((freed.filter fun y => y.state == .filled).length < b.watermark.toNat) }
        else
          { x with staleCount := 0, staleArmed := true, slots := x.slots.set slot { old with read := marks } } := by
  intro old marks freed
  have hmark : old.mark line = { old with read := marks } := old.mark_read line
  have hcovered : (old.mark line).isCovered lines = true ↔ ∀ j < lines, j ∈ marks := by
    rw [Slot.isCovered_iff, hmark]
  have hold : x.slots.getD slot Slot.empty = old := rfl
  by_cases hstate : old.state = .filled
  · rw [if_neg (not_not_intro hstate)]
    by_cases hall : ∀ j < lines, j ∈ marks
    · rw [if_pos hall]
      simp only [Stream.readLine, hold, hstate, hcovered.mpr hall, BEq.rfl, if_true, Stream.rearm, Stream.filledCount,
        List.countP_eq_length_filter]
      rfl
    · rw [if_neg hall, ← hmark]
      simp only [Stream.readLine, hold, hstate, BEq.rfl, if_true]
      exact if_neg (by rwa [hcovered])
  · rw [if_pos hstate]
    simp only [Stream.readLine, hold]
    exact if_neg (by rwa [beq_iff_eq])

/-- A stream that holds a line is enabled. -/
theorem Stream.enabledRecord_of_streamsAt {s : State} {addr k : Nat} {x : Stream} {b : StreamBody}
    (hk : k ∈ s.streamsAt addr) (hx : s.sw.streams[k]? = some x) (hb : x.record = some b) :
    x.enabledRecord = some b := by
  have hholds := (List.mem_filter.mp hk).2
  rw [List.getD_eq_getElem?_getD, hx, Option.getD_some] at hholds
  have hrecord : x.enabledRecord = if b.enabled = 1 then some b else none := by
    rw [Stream.enabledRecord_eq, hb]
  by_cases henabled : b.enabled = 1
  · rw [hrecord, if_pos henabled]
  · rw [hrecord, if_neg henabled] at hholds
    cases hholds

/-- Settles O51: the read is forwarded, and the one ring that holds its line takes it. -/
theorem ringReadMarksItsLine : Obligations.RingReadMarksItsLine := by
  unfold Obligations.RingReadMarksItsLine
  intro s r rest k slot line x b hsettled hactive hforward hgrant hread hstreams hx hb hblock size old marks freed hline
    haddr
  have henabled := Stream.enabledRecord_of_streamsAt (hstreams ▸ List.mem_singleton_self k) hx hb
  have hsize : b.slotSize s.sess.blockSize = size := slotSize_eq b s.sess.blockSize
  have hoffset : r.addr - b.base.toNat = 64 * line + size * slot := by
    rw [haddr, Nat.mul_comm size slot]
    omega
  have hslot : (r.addr - b.base.toNat) / size = slot := by
    rw [hoffset, Nat.add_mul_div_left _ _ (by omega), Nat.div_eq_of_lt hline, Nat.zero_add]
  have hplace : (r.addr - b.base.toNat) % size / 64 = line := by
    rw [hoffset, Nat.add_mul_mod_self_left, Nat.mod_eq_of_lt hline, Nat.mul_div_cancel_left line (by omega)]
  rw [exec_passingRequestTake hsettled hforward (.inr hgrant), State.takeHead_of_read hactive hread, State.ownRead,
    show (forwarded s r).streamsAt r.addr = [k] from hstreams, List.foldl_cons, List.foldl_nil, StreamWriter.read,
    StreamWriter.modifyStream, show (forwarded s r).sw.streams = s.sw.streams from rfl, modify_eq_set_of_getElem? _ hx,
    henabled]
  simp only [StreamBody.slotLines, show (forwarded s r).sess.blockSize = s.sess.blockSize from rfl, hsize, hslot, hplace,
    Stream.readLine_eq]
  rfl

end Sys2Proof.Machine
end

section
/-! Archive coding (R80 to R87, Section 5.10): the choices of the coder, and a coded entry read back. -/

namespace Sys2Proof.Machine

open Sys2Proof.Spec

/-! ### The order (R81) -/

/-- Of the numbers 0 to `n` the one with the least cost, the lowest of equals. -/
def cheapest (cost : Nat → Nat) (n : Nat) : Nat :=
  (List.range' 1 n).foldl (fun best p => if cost p < cost best then p else best) 0

theorem cheapest_succ (cost : Nat → Nat) (n : Nat) :
    cheapest cost (n + 1) = if cost (n + 1) < cost (cheapest cost n) then n + 1 else cheapest cost n := by
  rw [cheapest, List.range'_1_concat, List.foldl_append, Nat.add_comm 1 n]
  rfl

theorem cheapest_spec (cost : Nat → Nat) (n : Nat) :
    cheapest cost n ≤ n ∧ (∀ p ≤ n, cost (cheapest cost n) ≤ cost p)
      ∧ ∀ p < cheapest cost n, cost (cheapest cost n) < cost p := by
  induction n with
  | zero => exact ⟨le_rfl, fun p hp => by rw [Nat.le_zero.mp hp]; rfl, fun p hp => absurd hp (Nat.not_lt_zero p)⟩
  | succ n ih =>
    obtain ⟨hle, hleast, hlowest⟩ := ih
    rw [cheapest_succ]
    split
    · next hless =>
      refine ⟨le_rfl, fun p hp => ?_, fun p hp => hless.trans_le (hleast p (Nat.lt_succ_iff.mp hp))⟩
      rcases Nat.le_succ_iff.mp hp with hp | rfl
      · exact hless.le.trans (hleast p hp)
      · exact le_rfl
    · next hless =>
      refine ⟨hle.trans (Nat.le_succ n), fun p hp => ?_, hlowest⟩
      rcases Nat.le_succ_iff.mp hp with hp | rfl
      · exact hleast p hp
      · exact Nat.le_of_not_lt hless

theorem chooseOrder_le (xs : List Int) : chooseOrder xs ≤ 3 := (cheapest_spec _ 3).1

/-! ### The Rice parameter (R83) -/

/-- The largest of the numbers below `n` that R83 allows, or 0. -/
def largestAllowed (m u n : Nat) : Nat := (List.range n).foldl (fun best k => if m * 2 ^ k ≤ u then k else best) 0

theorem largestAllowed_succ (m u n : Nat) :
    largestAllowed m u (n + 1) = if m * 2 ^ n ≤ u then n else largestAllowed m u n := by
  rw [largestAllowed, List.range_succ, List.foldl_append]
  rfl

theorem largestAllowed_spec {m u : Nat} (h : m ≤ u) (n : Nat) :
    largestAllowed m u (n + 1) ≤ n ∧ m * 2 ^ largestAllowed m u (n + 1) ≤ u
      ∧ ∀ k ≤ n, m * 2 ^ k ≤ u → k ≤ largestAllowed m u (n + 1) := by
  induction n with
  | zero =>
    have hzero : largestAllowed m u 1 = 0 := by rw [largestAllowed_succ]; exact ite_self 0
    rw [hzero]
    exact ⟨le_rfl, by rwa [pow_zero, mul_one], fun k hk _ => hk⟩
  | succ n ih =>
    obtain ⟨hle, hallowed, hlargest⟩ := ih
    rw [largestAllowed_succ]
    split
    · next hfits => exact ⟨le_rfl, hfits, fun k hk _ => hk⟩
    · next hfits =>
      refine ⟨hle.trans (Nat.le_succ n), hallowed, fun k hk hkfits => ?_⟩
      rcases Nat.le_succ_iff.mp hk with hk | rfl
      · exact hlargest k hk hkfits
      · exact absurd hkfits hfits

theorem riceParameter_of_lt {m u : Nat} (h : u < m) : riceParameter m u = 0 := if_pos h

theorem riceParameter_of_le {m u : Nat} (h : m ≤ u) : riceParameter m u = largestAllowed m u 27 :=
  if_neg (Nat.not_lt.mpr h)

theorem riceParameter_le (m u : Nat) : riceParameter m u ≤ 26 := by
  rcases Nat.lt_or_ge u m with h | h
  · rw [riceParameter_of_lt h]
    exact Nat.zero_le 26
  · rw [riceParameter_of_le h]
    exact (largestAllowed_spec h 26).1

/-- Settles O56: the two searches of the coder, order by order and parameter by parameter. -/
theorem coderChoosesOrderAndParameter : Obligations.CoderChoosesOrderAndParameter := by
  unfold Obligations.CoderChoosesOrderAndParameter
  intro xs m u cost
  refine ⟨cheapest_spec (fun p => orderCost p xs) 3, riceParameter_of_lt, fun h => ?_⟩
  rw [riceParameter_of_le h]
  exact largestAllowed_spec h 26

/-! ### Numbers and bits (R85, R86) -/

theorem natBits_length (w v : Nat) : (natBits w v).length = w := by
  rw [natBits, List.length_map, List.length_range]

theorem bitsValue_concat (bits : List Bool) (b : Bool) : bitsValue (bits ++ [b]) = 2 * bitsValue bits + b.toNat := by
  rw [bitsValue, List.foldl_append]
  rfl

/-- The low bit of a number comes last. -/
theorem natBits_succ (w v : Nat) : natBits (w + 1) v = natBits w (v / 2) ++ [v.testBit 0] := by
  rw [natBits, List.range_succ, List.map_append, List.map_singleton, Nat.add_sub_cancel, Nat.sub_self, natBits]
  refine congrArg (· ++ [v.testBit 0]) (List.map_congr_left fun i hi => ?_)
  rw [Nat.testBit_div_two]
  congr 1
  have := List.mem_range.mp hi
  omega

/-- A number of `w` bits is what its bits say. -/
theorem bitsValue_natBits (w v : Nat) : bitsValue (natBits w v) = v % 2 ^ w := by
  induction w generalizing v with
  | zero => exact (Nat.mod_one v).symm
  | succ w ih =>
    have hlow : (v.testBit 0).toNat = v % 2 := by
      rw [Nat.testBit_zero]
      rcases Nat.mod_two_eq_zero_or_one v with h | h <;> rw [h] <;> rfl
    rw [natBits_succ, bitsValue_concat, ih, hlow, Nat.pow_succ', Nat.mod_mul, Nat.add_comm]

/-- Bits are those of the number they say. -/
theorem natBits_bitsValue (bits : List Bool) : natBits bits.length (bitsValue bits) = bits := by
  induction bits using List.reverseRecOn with
  | nil => rfl
  | append_singleton bits b ih =>
    have hhalf : (2 * bitsValue bits + b.toNat) / 2 = bitsValue bits := by
      have := b.toNat_lt
      omega
    have hlow : (2 * bitsValue bits + b.toNat).testBit 0 = b := by
      cases b <;> simp [Nat.testBit_zero] 
    rw [List.length_append, List.length_singleton, natBits_succ, bitsValue_concat, hhalf, ih, hlow]

theorem bitsValue_lt (bits : List Bool) : bitsValue bits < 2 ^ bits.length := by
  have hvalue := bitsValue_natBits bits.length (bitsValue bits)
  rw [natBits_bitsValue] at hvalue
  rw [hvalue]
  exact Nat.mod_lt _ (Nat.two_pow_pos _)

/-! ### The packed payload (R86) -/

/-- A list in chunks of 32. -/
theorem flatMap_chunks {α : Type} (l : List α) (n : Nat) :
    (List.range n).flatMap (fun j => (l.drop (32 * j)).take 32) = l.take (32 * n) := by
  induction n with
  | zero => simp
  | succ n ih => rw [List.range_succ, List.flatMap_append, ih, List.flatMap_singleton, Nat.mul_succ, List.take_add]

/-- The bits of word `j` of a packed bit string, with the zero-bits that complete the last word. -/
def wordBits (bits : List Bool) (j : Nat) : List Bool :=
  (bits.drop (32 * j)).take 32 ++ List.replicate (32 - ((bits.drop (32 * j)).take 32).length) false

theorem wordBits_length (bits : List Bool) (j : Nat) : (wordBits bits j).length = 32 := by
  simp [wordBits]

theorem packedWord_eq (bits : List Bool) (j : Nat) : packedWord bits j = bitsValue (wordBits bits j) := rfl

/-- The completing zero-bits of a packed bit string. -/
def padding (bits : List Bool) : List Bool := List.replicate (32 * ((bits.length + 31) / 32) - bits.length) false

theorem wordBits_eq_chunk (bits : List Bool) {j : Nat} (hj : j < (bits.length + 31) / 32) :
    wordBits bits j = ((bits ++ padding bits).drop (32 * j)).take 32 := by
  rw [wordBits, padding, List.drop_append, List.take_append, List.drop_replicate, List.take_replicate]
  congr 2
  simp only [List.length_take, List.length_drop]
  omega

/-- The words of a packed bit string are the string and its completing zero-bits. -/
theorem flatMap_wordBits (bits : List Bool) :
    (List.range ((bits.length + 31) / 32)).flatMap (wordBits bits) = bits ++ padding bits := by
  have hchunks : (List.range ((bits.length + 31) / 32)).flatMap (wordBits bits)
      = (List.range ((bits.length + 31) / 32)).flatMap fun j => ((bits ++ padding bits).drop (32 * j)).take 32 :=
    List.flatMap_congr fun j hj => wordBits_eq_chunk bits (List.mem_range.mp hj)
  rw [hchunks, flatMap_chunks, List.take_of_length_le]
  simp only [List.length_append, padding, List.length_replicate]
  omega

theorem packBits_length (bits : List Bool) : (packBits bits).length = 4 * ((bits.length + 31) / 32) := by
  rw [packBits, flatMap_length _ 4 _ fun j _ => leBytes_length 4 _, List.length_range]

/-- Word `j` of a packed bit string, read back. -/
theorem fieldAt_packBits (bits : List Bool) {j : Nat} (hj : j < (bits.length + 31) / 32) :
    fieldAt (packBits bits) (4 * j) 4 = packedWord bits j := by
  have hword : ∀ j ∈ List.range ((bits.length + 31) / 32), (leBytes 4 (packedWord bits j)).length = 4 :=
    fun j _ => leBytes_length 4 _
  have hlt : packedWord bits j < 256 ^ 4 := by
    have := bitsValue_lt (wordBits bits j)
    rwa [wordBits_length] at this
  rw [fieldAt, packBits, drop_flatMap_of_length hword (by rwa [List.length_range]), List.getElem_range, leValue_leBytes,
    Nat.mod_eq_of_lt hlt]

/-- R86: the bits of a packed payload are the bit string and its completing zero-bits. -/
theorem payloadBits_packBits (bits : List Bool) : payloadBits (packBits bits) = bits ++ padding bits := by
  rw [payloadBits, packBits_length, Nat.mul_div_cancel_left _ (by omega), ← flatMap_wordBits]
  refine List.flatMap_congr fun j hj => ?_
  have hbits := natBits_bitsValue (wordBits bits j)
  rw [wordBits_length] at hbits
  rw [fieldAt_packBits bits (List.mem_range.mp hj), packedWord_eq, hbits]

/-! ### One code (R85) -/

theorem length_takeWhile_replicate (n : Nat) (rest : List Bool) :
    ((List.replicate n true ++ rest).takeWhile id).length = n + (rest.takeWhile id).length := by
  induction n with
  | zero => simp
  | succ n ih =>
    rw [List.replicate_succ, List.cons_append, List.takeWhile_cons_of_pos rfl, List.length_cons, ih]
    omega

/-- R85: a code read back, whatever follows it. -/
theorem readCode_riceCode {k u : Nat} (hu : u < 2 ^ 27) (rest : List Bool) :
    readCode k (riceCode k u ++ rest) = (u, rest) := by
  unfold riceCode
  split
  · next hescape =>
    rw [List.append_assoc, readCode, length_takeWhile_replicate]
    rw [if_pos (Nat.le_add_right 32 _)]
    have hdrop : (List.replicate 32 true ++ (natBits 27 u ++ rest)).drop 32 = natBits 27 u ++ rest :=
      List.drop_left' List.length_replicate
    have hall : (List.replicate 32 true ++ (natBits 27 u ++ rest)).drop 59 = rest := by
      rw [← List.append_assoc]
      exact List.drop_left' (by rw [List.length_append, List.length_replicate, natBits_length])
    rw [hdrop, hall, List.take_left' (natBits_length 27 u), bitsValue_natBits, Nat.mod_eq_of_lt hu]
  · next hescape =>
    have hq : u / 2 ^ k < 32 := by simpa [isEscape] using hescape
    have hfront : (List.replicate (u / 2 ^ k) true ++ [false] ++ natBits k u ++ rest)
        = List.replicate (u / 2 ^ k) true ++ ([false] ++ (natBits k u ++ rest)) := by
      simp only [List.append_assoc]
    have hcount : ((List.replicate (u / 2 ^ k) true ++ ([false] ++ (natBits k u ++ rest))).takeWhile id).length = u / 2 ^ k := by
      rw [length_takeWhile_replicate]
      rfl
    rw [hfront, readCode, hcount, if_neg (Nat.not_le.mpr hq)]
    have hlow : (List.replicate (u / 2 ^ k) true ++ ([false] ++ (natBits k u ++ rest))).drop (u / 2 ^ k + 1)
        = natBits k u ++ rest := by
      rw [← List.append_assoc]
      exact List.drop_left' (by rw [List.length_append, List.length_replicate, List.length_singleton])
    have hall : (List.replicate (u / 2 ^ k) true ++ ([false] ++ (natBits k u ++ rest))).drop (u / 2 ^ k + 1 + k)
        = rest := by
      rw [← List.drop_drop, hlow, List.drop_left' (natBits_length k u)]
    rw [hlow, hall, List.take_left' (natBits_length k u), bitsValue_natBits, Nat.div_add_mod']

/-! ### The samples of an entry -/

/-- The residuals' codes, read back sample by sample (R80, R82). -/
theorem readSamples_codes {p k : Nat} (xs : List Int) (before : List Int) (rest : List Bool)
    (h : ∀ e ∈ residualsAfter p before xs, mapResidual e < 2 ^ 27) :
    readSamples p k xs.length before
        ((residualsAfter p before xs).flatMap (fun e => riceCode k (mapResidual e)) ++ rest) = xs := by
  induction xs generalizing before with
  | nil => rfl
  | cons x xs ih =>
    rw [residualsAfter] at h ⊢
    obtain ⟨hx, hxs⟩ := List.forall_mem_cons.mp h
    have hsample : unmapped (mapResidual (x - predict p before)) + predict p before = x := by
      rw [unmapped_mapResidual]
      omega
    rw [List.flatMap_cons, List.append_assoc, List.length_cons, readSamples, readCode_riceCode hx]
    simp only [hsample]
    rw [ih (x :: before) hxs]

/-- A sample from its 24 bits (R84, R87). -/
theorem signed24_signedField {x : Int} (h : -8388608 ≤ x ∧ x ≤ 8388607) : signed24 (signedField 24 x) = x := by
  rw [signed24, signedField, BitVec.ofNat_toNat, BitVec.setWidth_eq, BitVec.toInt_ofInt]
  exact Int.bmod_eq_of_le (by omega) (by omega)

theorem signedField_lt (w : Nat) (x : Int) : signedField w x < 2 ^ w := (BitVec.ofInt w x).isLt

theorem length_flatMap_of_length {α β : Type} {f : α → List β} {size : Nat} {l : List α}
    (h : ∀ a ∈ l, (f a).length = size) : (l.flatMap f).length = size * l.length := by
  rw [List.length_flatMap, List.map_congr_left h, List.map_const', List.sum_replicate, smul_eq_mul, mul_comm]

/-- The 24 bits of each warm-up sample (R84). -/
def warmBits (xs : List Int) : List Bool := xs.flatMap fun x => natBits 24 (signedField 24 x)

theorem warmBits_length (xs : List Int) : (warmBits xs).length = 24 * xs.length :=
  length_flatMap_of_length fun _ _ => natBits_length 24 _

/-- The warm-up samples of a bit string, read back (R84). -/
theorem warm_eq {xs : List Int} (h : AreSamples xs) (rest : List Bool) :
    ((List.range xs.length).map fun i => signed24 (bitsValue (((warmBits xs ++ rest).drop (24 * i)).take 24))) = xs := by
  refine List.ext_getElem (by simp) fun i hi hi' => ?_
  have hlength : ∀ x ∈ xs, (natBits 24 (signedField 24 x)).length = 24 := fun x _ => natBits_length 24 _
  have hwarm := warmBits_length xs
  rw [List.getElem_map, List.getElem_range, List.drop_append_of_le_length (by omega),
    List.take_append_of_le_length (by rw [List.length_drop]; omega), warmBits, drop_flatMap_of_length hlength hi',
    bitsValue_natBits, Nat.mod_eq_of_lt (signedField_lt 24 _), signed24_signedField (h _ (List.getElem_mem hi'))]

/-- Every residual of a block has a code of its own (R80, R82). -/
theorem mapResidual_lt_of_mem {p : Nat} {xs : List Int} (h : AreSamples xs) (hp : p ≤ 3) {e : Int}
    (he : e ∈ residualsFrom p p xs) : mapResidual e < 2 ^ 27 := by
  obtain ⟨n, hn, rfl⟩ := List.mem_iff_getElem.mp he
  rw [residualsFrom_length] at hn
  have hbound := residual_natAbs_le h hp (show p + n < xs.length by omega)
  rw [List.getD_eq_getElem _ _ (by rwa [residualsFrom_length])] at hbound
  exact mapResidual_lt hbound

/-- R80 to R86: a coded bit string, read back as Section 5.10 says. -/
theorem readCoded_packBits {p : Nat} {xs : List Int} (h : AreSamples xs) (hp : p ≤ 3) (hlength : p ≤ xs.length)
    (k : Nat) : readCoded p k xs.length (packBits (bitString p k xs)) = xs := by
  have htake : (xs.take p).length = p := List.length_take_of_le hlength
  have hsamples : AreSamples (xs.take p) := fun x hx => h x (List.mem_of_mem_take hx)
  have hcodes : ∀ e ∈ residualsAfter p (xs.take p).reverse (xs.drop p), mapResidual e < 2 ^ 27 :=
    fun e he => mapResidual_lt_of_mem h hp he
  have hbits : payloadBits (packBits (bitString p k xs))
      = warmBits (xs.take p) ++ ((residualsFrom p p xs).flatMap (fun e => riceCode k (mapResidual e))
          ++ padding (bitString p k xs)) := by
    rw [payloadBits_packBits, bitString, List.append_assoc]
    rfl
  have hwarm := warm_eq hsamples ((residualsFrom p p xs).flatMap (fun e => riceCode k (mapResidual e))
    ++ padding (bitString p k xs))
  rw [htake] at hwarm
  have hrest := readSamples_codes (k := k) (xs.drop p) (xs.take p).reverse (padding (bitString p k xs)) hcodes
  rw [List.length_drop] at hrest
  have hdrop := warmBits_length (xs.take p)
  rw [htake] at hdrop
  simp only [readCoded, hbits, hwarm, List.drop_left' hdrop]
  rw [residualsFrom, hrest, List.take_append_drop]

theorem readVerbatim_blockBytes {xs : List Int} (h : AreSamples xs) :
    readVerbatim xs.length (blockBytes xs) = xs ∧ (blockBytes xs).length = 3 * xs.length := by
  have hlength : ∀ x ∈ xs, (sampleBytes24 x).length = 3 := fun x _ => leBytes_length 3 _
  refine ⟨List.ext_getElem (by simp [readVerbatim]) fun i hi hi' => ?_, flatMap_length _ 3 _ hlength⟩
  have hfield : signedField 24 xs[i] < 256 ^ 3 := signedField_lt 24 _
  simp only [readVerbatim, List.getElem_map, List.getElem_range]
  rw [fieldAt, blockBytes, drop_flatMap_of_length hlength hi', sampleBytes24, leValue_leBytes,
    Nat.mod_eq_of_lt hfield, signed24_signedField (h _ (List.getElem_mem hi'))]

/-- Settles O57: the coded form and the verbatim fallback, each read back. -/
theorem archivedBlockIsRebuiltExactly : Obligations.ArchivedBlockIsRebuiltExactly := by
  unfold Obligations.ArchivedBlockIsRebuiltExactly
  intro xs hblock hsamples c
  have hlong : 64 ≤ xs.length := by omega
  have hc : c = codeBlock xs := rfl
  rw [codeBlock] at hc
  split at hc
  · next hlonger =>
    obtain ⟨hread, hlength⟩ := readVerbatim_blockBytes hsamples
    rw [hc]
    exact ⟨fun hcoded => absurd hcoded Bool.noConfusion, fun _ => ⟨hread, hlength, rfl, rfl, rfl⟩⟩
  · next hfits =>
    have horder := chooseOrder_le xs
    rw [hc]
    exact ⟨fun _ => ⟨readCoded_packBits hsamples horder (horder.trans (by omega)) _, Nat.not_lt.mp hfits,
      packBits_length _, horder, riceParameter_le _ _⟩, fun hverbatim => absurd hverbatim Bool.noConfusion⟩

end Sys2Proof.Machine
end

section
/-! The Mix Engine (R62 to R77): ramps, accumulation and its order, rounding and saturation, stream samples, and the
finalisation of a closed frame. -/

namespace Sys2Proof.Machine

open Sys2Proof.Spec

/-! ### Ramps (R65) -/

/-- A part of a distance, taken toward zero, lies between 0 and the distance. -/
theorem tdiv_between {d m n : Int} (hm : 0 ≤ m) (hmn : m ≤ n) (hn : 0 < n) :
    min 0 d ≤ Int.tdiv (d * m) n ∧ Int.tdiv (d * m) n ≤ max 0 d := by
  have hpart : ∀ {x : Int}, 0 ≤ x → 0 ≤ Int.tdiv (x * m) n ∧ Int.tdiv (x * m) n ≤ x := by
    intro x hx
    have hprod : 0 ≤ x * m := Int.mul_nonneg hx hm
    rw [Int.tdiv_eq_ediv_of_nonneg hprod]
    exact ⟨Int.ediv_nonneg hprod hn.le, Int.ediv_le_of_le_mul hn (Int.mul_le_mul_of_nonneg_left hmn hx)⟩
  rcases Int.le_total 0 d with hd | hd
  · have := hpart hd
    omega
  · have hneg := hpart (Int.neg_nonneg_of_nonpos hd)
    rw [Int.neg_mul, Int.neg_tdiv] at hneg
    omega

theorem ramp_between {c0 c1 : Int} {n blockSize : Nat} (h : n < blockSize) :
    min c0 c1 ≤ ramp c0 c1 blockSize n ∧ ramp c0 c1 blockSize n ≤ max c0 c1 := by
  have hpart := tdiv_between (d := c1 - c0) (m := n + 1) (n := blockSize) (by omega) (by omega) (by omega)
  rw [ramp]
  omega

theorem ramp_last {c0 c1 : Int} {n blockSize : Nat} (h : n < blockSize) (hlast : n = blockSize - 1) :
    ramp c0 c1 blockSize n = c1 := by
  have hcount : (n : Int) + 1 = blockSize := by omega
  rw [ramp, hcount, Int.mul_tdiv_cancel _ (by omega)]
  omega

/-! ### Accumulation (R66, R67) -/

theorem addProducts_eq {blockSize : Nat} {acc : List Int} (h : acc.length = blockSize) (input : SnapInput)
    (samples : List Int) :
    addProducts blockSize input samples acc
      = acc.zipIdx.map fun (a, n) => a + ramp input.c0 input.c1 blockSize n * samples.getD n 0 := by
  subst h
  refine List.ext_getElem (by simp [addProducts]) fun n hn hn' => ?_
  have hacc : n < acc.length := by simpa [addProducts] using hn
  simp [addProducts, hacc]

theorem Frame.accumulate_of_snapshot {f : Frame} {snaps : List BusSnapshot} (h : f.snapshot = some snaps)
    (blockSize t : Nat) (samples : List Int) :
    f.accumulate blockSize t samples
      = { f with accumulators := List.zipWith (accumulateBus blockSize t samples) snaps f.accumulators } := by
  rw [Frame.accumulate, h]

theorem Frame.accumulate_of_none {f : Frame} (h : f.snapshot = none) (blockSize t : Nat) (samples : List Int) :
    f.accumulate blockSize t samples = f := by
  rw [Frame.accumulate, h]

theorem accumulateBus_of_input {p : BusSnapshot} {t : Nat} {i : SnapInput}
    (h : (p.inputs.find? fun i => i.track == t) = some i) (blockSize : Nat) (samples acc : List Int) :
    accumulateBus blockSize t samples p acc = addProducts blockSize i samples acc := by
  rw [accumulateBus, h]

theorem accumulateBus_of_none {p : BusSnapshot} {t : Nat} (h : (p.inputs.find? fun i => i.track == t) = none)
    (blockSize : Nat) (samples acc : List Int) : accumulateBus blockSize t samples p acc = acc := by
  rw [accumulateBus, h]

/-- Settles O52: the formula of the ramp with its bounds, and where it is used. -/
theorem rampStaysBetweenItsEnds : Obligations.RampStaysBetweenItsEnds := by
  unfold Obligations.RampStaysBetweenItsEnds
  refine ⟨fun c0 c1 n blockSize hn => ?_, ?_⟩
  · obtain ⟨hlow, hhigh⟩ := ramp_between (c0 := c0) (c1 := c1) hn
    exact ⟨rfl, hlow, hhigh, ramp_last hn⟩
  · intro f snaps p blockSize t b samples acc hsnapshot hp hacc hlength g
    have hg : g = { f with accumulators := List.zipWith (accumulateBus blockSize t samples) snaps f.accumulators } :=
      f.accumulate_of_snapshot hsnapshot blockSize t samples
    have hbus : g.accumulators[b]? = some (accumulateBus blockSize t samples p acc) := by
      rw [hg]
      simp only [List.getElem?_zipWith, hp, hacc]
    refine ⟨by rw [hg], fun i hi => ?_, fun hnone => ?_, rfl⟩
    · rw [hbus, accumulateBus_of_input hi, addProducts_eq hlength]
    · rw [hbus, accumulateBus_of_none hnone]

theorem addProducts_comm (blockSize : Nat) (i j : SnapInput) (xs ys acc : List Int) :
    addProducts blockSize j ys (addProducts blockSize i xs acc)
      = addProducts blockSize i xs (addProducts blockSize j ys acc) := by
  have hread : ∀ (k : SnapInput) (zs : List Int), ∀ n < blockSize,
      (addProducts blockSize k zs acc).getD n 0
        = acc.getD n 0 + ramp k.c0 k.c1 blockSize n * zs.getD n 0 := by
    intro k zs n hn
    simp [addProducts, hn]
  refine List.map_congr_left fun n hn => ?_
  rw [hread _ _ n (List.mem_range.mp hn), hread _ _ n (List.mem_range.mp hn)]
  ring

theorem accumulateBus_comm (blockSize t u : Nat) (xs ys : List Int) (p : BusSnapshot) (acc : List Int) :
    accumulateBus blockSize u ys p (accumulateBus blockSize t xs p acc)
      = accumulateBus blockSize t xs p (accumulateBus blockSize u ys p acc) := by
  cases ht : p.inputs.find? fun i => i.track == t with
  | none => simp only [accumulateBus_of_none ht]
  | some i =>
    cases hu : p.inputs.find? fun i => i.track == u with
    | none => simp only [accumulateBus_of_none hu]
    | some j => simp only [accumulateBus_of_input ht, accumulateBus_of_input hu, addProducts_comm]

/-- R67: two winning blocks give the same accumulators in either order. -/
theorem Frame.accumulate_comm (f : Frame) (blockSize : Nat) (x y : Nat × List Int) :
    (f.accumulate blockSize x.1 x.2).accumulate blockSize y.1 y.2
      = (f.accumulate blockSize y.1 y.2).accumulate blockSize x.1 x.2 := by
  cases hsnapshot : f.snapshot with
  | none => simp only [f.accumulate_of_none hsnapshot]
  | some snaps =>
    have hkeep : ∀ accs, ({ f with accumulators := accs } : Frame).snapshot = some snaps := fun _ => hsnapshot
    simp only [f.accumulate_of_snapshot hsnapshot, Frame.accumulate_of_snapshot (hkeep _)]
    congr 1
    refine List.ext_getElem (by simp) fun n hn hn' => ?_
    simp only [List.getElem_zipWith, accumulateBus_comm]

/-- Settles O54: accumulation is a fold of a step that commutes with itself. -/
theorem accumulationIgnoresArrivalOrder : Obligations.AccumulationIgnoresArrivalOrder := by
  unfold Obligations.AccumulationIgnoresArrivalOrder
  intro f blockSize blocks other hperm
  exact hperm.foldl_eq' (fun x _ y _ g => g.accumulate_comm blockSize x y) f

/-! ### Rounding and saturation (R68, R70, R74) -/

theorem saturate_eq {a b : Int} (h : a ≤ b) (x : Int) : saturate a b x = max a (min b x) := by
  unfold saturate
  split
  · omega
  · split <;> omega

theorem busValue_eq (a : Int) : busValue a = max (-8388608) (min 8388607 ((a + 8192) / 16384)) :=
  saturate_eq (by decide) _

theorem isOver_iff (a : Int) : isOver a = true ↔ (a + 8192) / 16384 < -8388608 ∨ 8388607 < (a + 8192) / 16384 := by
  rw [isOver, bne_iff_ne, busValue_eq, roundAccumulator]
  omega

/-- The mute-scaled value lies between 0 and the bus value (R70). -/
theorem muteScale_between (y : Int) {m : Nat} (h : m ≤ 16384) :
    min 0 y ≤ muteScale y m ∧ muteScale y m ≤ max 0 y := by
  have hm : (0 : Int) ≤ m := Int.natCast_nonneg m
  have hunity : (m : Int) ≤ 16384 := by omega
  rw [muteScale]
  rcases Int.le_total 0 y with hy | hy
  · have hlow := Int.mul_nonneg hy hm
    have hhigh := Int.mul_le_mul_of_nonneg_left hunity hy
    omega
  · have hlow := Int.mul_nonneg (Int.neg_nonneg_of_nonpos hy) hm
    have hhigh := Int.mul_le_mul_of_nonneg_left hunity (Int.neg_nonneg_of_nonpos hy)
    rw [Int.neg_mul] at hlow hhigh
    omega

theorem muteScale_unity (y : Int) : muteScale y 16384 = y := by
  rw [muteScale]
  omega

theorem muteScale_zero (y : Int) : muteScale y 0 = 0 := by
  rw [muteScale, Int.mul_zero]
  rfl

theorem sample16_eq (z d : Int) (m : Nat) :
    sample16 z m d = if m = 0 then 0 else max (-32768) (min 32767 ((z + d + 128) / 256)) := by
  rw [sample16, saturate_eq (by decide)]
  exact if_congr Int.natCast_eq_zero rfl rfl

/-! ### Stream samples (R73 to R76) -/

theorem signedField_eq (w : Nat) (x : Int) : signedField w x = (x % 2 ^ w).toNat := by
  rw [signedField, BitVec.toNat_ofInt]
  norm_cast

theorem streamSample_of_s24 {b : StreamBody} (h : b.width ≠ 0) (z m : Int) (g : BitVec 32) :
    streamSample b z m g = (leBytes 4 (z % 2 ^ 32).toNat, g) := by
  rw [streamSample, if_neg (by rwa [beq_iff_eq]), signedField_eq]

theorem streamSample_undithered {b : StreamBody} (h : b.width = 0) {m : Nat} (hm : b.dither = 0 ∨ m = 0) (z : Int)
    (g : BitVec 32) : streamSample b z m g = (leBytes 2 (sample16 z m 0 % 2 ^ 16).toNat, g) := by
  have hoff : ¬ (b.dither == 1 && (m : Int) != 0) = true := by
    rcases hm with hdither | rfl
    · simp [hdither]
    · simp
  rw [streamSample, if_pos (beq_iff_eq.mpr h), if_neg hoff, signedField_eq]

theorem streamSample_dithered {b : StreamBody} (h : b.width = 0) (hdither : b.dither = 1) {m : Nat} (hm : m ≠ 0) (z : Int)
    (g : BitVec 32) :
    let first := ditherAdvance g
    let second := ditherAdvance first
    streamSample b z m g
      = (leBytes 2 (sample16 z m ((first.toNat % 256 : Nat) - (second.toNat % 256 : Nat)) % 2 ^ 16).toNat, second) := by
  intro first second
  have hon : (b.dither == 1 && (m : Int) != 0) = true := by simp [hdither, hm]
  rw [streamSample, if_pos (beq_iff_eq.mpr h), if_pos hon]
  simp only [signedField_eq]
  rfl

/-! ### The finalisation of a frame (R68 to R72, R77) -/

theorem finalise_of_none {f : Frame} (h : f.snapshot = none) (blockSize : Nat) (buses : List Bus) :
    finalise blockSize buses f
      = ⟨buses, buses.map fun b =>
          let gain : Int := if b.muteApplied then 0 else 16384
          ⟨List.replicate blockSize 0, List.replicate blockSize gain, gain, false⟩, []⟩ := by
  rw [finalise, h]
  rfl

theorem meterBuses_eq_zipWith {accs : List (List Int)} {buses : List Bus} (h : accs.length = buses.length) :
    meterBuses accs buses = List.zipWith (fun acc b => b.meter acc) accs buses := by
  induction accs generalizing buses with
  | nil =>
    rw [List.eq_nil_of_length_eq_zero h.symm]
    rfl
  | cons acc accs ih =>
    cases buses with
    | nil => cases h
    | cons b bs => rw [meterBuses, ih (Nat.succ.inj h), List.zipWith_cons_cons]

/-- The meters of a bus after a frame (R69, R77). -/
theorem Bus.meter_eq (b : Bus) (acc : List Int) :
    let overs := (acc.filter isOver).length
    b.meter acc
      = { b with
          peak := (acc.map fun a => (busValue a).natAbs).foldl max b.peak
          overCount := min (b.overCount + overs) 4294967295
          overFrames := if overs = 0 then b.overFrames else satInc b.overFrames } := by
  intro overs
  rw [Bus.meter, List.countP_eq_length_filter, List.foldl_map]
  rfl

/-- A finalised bus (R68 to R71). -/
theorem finalBus_eq {acc : List Int} {blockSize : Nat} (h : acc.length = blockSize) (p : BusSnapshot) :
    finalBus blockSize p acc
      = ⟨acc.zipIdx.map fun (a, i) => muteScale (busValue a) (ramp p.gain0 p.gain1 blockSize i),
          (List.range blockSize).map fun i => ramp p.gain0 p.gain1 blockSize i, p.gain1,
          decide ((acc.filter isOver).length ≠ 0)⟩ := by
  have hvalues : List.zipWith (fun a m => muteScale (busValue a) m) acc
        ((List.range blockSize).map fun i => ramp p.gain0 p.gain1 blockSize i)
      = acc.zipIdx.map fun (a, i) => muteScale (busValue a) (ramp p.gain0 p.gain1 blockSize i) :=
    List.ext_getElem (by simp [h]) fun i hi hi' => by simp
  have hover : acc.any isOver = decide ((acc.filter isOver).length ≠ 0) := by
    rw [Bool.eq_iff_iff, decide_eq_true_iff, Ne, List.length_eq_zero_iff, List.filter_eq_nil_iff]
    simp
  rw [finalBus, hvalues, hover]

/-- The BUS_OVER records, bus by bus (R69). -/
theorem busOverRecords_eq (frame k : Nat) {accs : List (List Int)} {buses : List Bus} (h : accs.length = buses.length) :
    busOverRecords frame k accs (meterBuses accs buses)
      = (buses.zipIdx k).flatMap fun p => busOverRecord p.2 frame (accs.getD (p.2 - k) []) (p.1.meter (accs.getD (p.2 - k) [])) := by
  induction accs generalizing k buses with
  | nil =>
    rw [List.eq_nil_of_length_eq_zero h.symm]
    rfl
  | cons acc accs ih =>
    cases buses with
    | nil => cases h
    | cons b bs =>
      rw [meterBuses, busOverRecords, ih (k + 1) (Nat.succ.inj h), List.zipIdx_cons, List.flatMap_cons, Nat.sub_self,
        List.getD_cons_zero]
      refine congrArg _ (List.flatMap_congr fun p hp => ?_)
      have hk := List.le_snd_of_mem_zipIdx hp
      have hshift : (acc :: accs).getD (p.2 - k) [] = accs.getD (p.2 - (k + 1)) [] := by
        rw [show p.2 - k = (p.2 - (k + 1)) + 1 by omega, List.getD_cons_succ]
      rw [hshift]

/-- The BUS_OVER record of one bus, from its meters before the frame (R69). -/
theorem busOverRecord_meter (n frame : Nat) (acc : List Int) (b : Bus) :
    let overs := (acc.filter isOver).length
    busOverRecord n frame acc (b.meter acc)
      = if overs = 0 then []
        else [⟨.busOver, n, some frame, overs, min (b.overCount + overs) 4294967295⟩] := by
  intro overs
  rw [busOverRecord, List.countP_eq_length_filter, Bus.meter_eq]

/-- Settles O53: the sample arithmetic, and the finalisation of empty and opened frames. -/
theorem samplesAreRoundedAndSaturated : Obligations.SamplesAreRoundedAndSaturated := by
  unfold Obligations.SamplesAreRoundedAndSaturated
  refine ⟨fun a y z d m b g hm => ?_, ?_⟩
  · obtain ⟨hlow, hhigh⟩ := muteScale_between y hm
    exact ⟨⟨busValue_eq a, isOver_iff a⟩, ⟨rfl, hlow, hhigh, muteScale_unity y, muteScale_zero y⟩, sample16_eq z d m,
      fun hwidth => streamSample_of_s24 hwidth z m g, fun hwidth hoff => streamSample_undithered hwidth hoff z g,
      fun hwidth hdither hm => streamSample_dithered hwidth hdither hm z g, rfl, fun _ => rfl⟩
  · intro blockSize buses f r
    refine ⟨fun hnone => finalise_of_none hnone _ _, ?_⟩
    intro snaps hsnapshot hsnaps haccs hlengths overs overCount
    have hr : r = ⟨meterBuses f.accumulators buses, List.zipWith (finalBus blockSize) snaps f.accumulators,
        busOverRecords f.number 0 f.accumulators (meterBuses f.accumulators buses)⟩ := by
      show finalise blockSize buses f = _
      rw [finalise, hsnapshot]
    rw [hr]
    refine ⟨meterBuses_length _ _, by rw [List.length_zipWith, hsnaps, haccs, min_self], fun n b p acc hb hp hacc => ?_, ?_⟩
    · have hovers : overs n = (acc.filter isOver).length := by
        simp only [overs, List.getD_eq_getElem?_getD, hacc, Option.getD_some]
      have hlength := hlengths acc (List.mem_of_getElem? hacc)
      constructor
      · simp only [meterBuses_eq_zipWith haccs, List.getElem?_zipWith, hacc, hb, Bus.meter_eq, overCount, hovers]
      · simp only [List.getElem?_zipWith, hacc, hp, finalBus_eq hlength, hovers]
    · simp only [busOverRecords_eq f.number 0 haccs, Nat.sub_zero, busOverRecord_meter]
      rfl

end Sys2Proof.Machine
end

section
/-! The expiry of the stall timer (R10, R50): every held frame closes, and the windows become unanchored. -/

namespace Sys2Proof.Machine

open Sys2Proof.Spec

/-! ### Closing every held frame, one number after the other (R43) -/

theorem ft_nextNumber_eq (s : State) : s.ft.nextNumber = nextNumber s := rfl

theorem State.closeAll_of_last {s : State} {f : Frame} (h : s.ft.frames.getLast? = some f) (cause : Cause) :
    s.closeAll cause = State.closeRun cause (f.number + 1 - s.ft.nextNumber) s.ft.nextNumber s := by
  rw [State.closeAll, h]
  rfl

theorem State.closeAll_of_empty {s : State} (h : s.ft.frames = []) (cause : Cause) : s.closeAll cause = s := by
  rw [State.closeAll, h]
  rfl

/-- R43: the oldest unclosed number closes, held or not, and then the others. -/
theorem State.closeAll_eq_closeOne {s : State} (horder : s.ft.frames.Pairwise fun a b => a.number < b.number)
    (hlow : ∀ f ∈ s.ft.frames, s.ft.nextNumber ≤ f.number) (hheld : s.ft.frames ≠ []) (cause : Cause) :
    s.closeAll cause = (s.closeOne s.ft.nextNumber cause).closeAll cause := by
  obtain ⟨front, f, hframes⟩ : ∃ front f, s.ft.frames = front ++ [f] :=
    ⟨_, _, (List.dropLast_append_getLast hheld).symm⟩
  obtain ⟨empty, hone⟩ := s.closeOne_ft s.ft.nextNumber cause
  have hnext : (s.closeOne s.ft.nextNumber cause).ft.nextNumber = s.ft.nextNumber + 1 :=
    FrameTable.nextNumber_of_some (by rw [hone])
  have hrest : (s.closeOne s.ft.nextNumber cause).ft.frames
      = (front.filter fun x => x.number != s.ft.nextNumber) ++ [f].filter fun x => x.number != s.ft.nextNumber := by
    rw [hone, ← List.filter_append, ← hframes]
  have hf : s.ft.nextNumber ≤ f.number := hlow f (by rw [hframes]; exact List.mem_append_right _ List.mem_cons_self)
  have hcount : f.number + 1 - s.ft.nextNumber = (f.number - s.ft.nextNumber) + 1 := by omega
  have hlast : s.ft.frames.getLast? = some f := by rw [hframes, List.getLast?_concat]
  rw [State.closeAll_of_last hlast, hcount, State.closeRun]
  by_cases hsame : f.number = s.ft.nextNumber
  · have hfront : front = [] := by
      rw [hframes, List.pairwise_append] at horder
      refine List.eq_nil_iff_forall_not_mem.mpr fun x hx => ?_
      have hbelow := horder.2.2 x hx f (List.mem_singleton_self f)
      have habove := hlow x (by rw [hframes]; exact List.mem_append_left _ hx)
      omega
    rw [State.closeAll_of_empty (by rw [hrest, hfront]; simp [hsame]), hsame, Nat.sub_self]
    rfl
  · have hlast' : (s.closeOne s.ft.nextNumber cause).ft.frames.getLast? = some f := by
      rw [hrest, List.filter_singleton, bne_iff_ne.mpr hsame, cond_true, List.getLast?_concat]
    rw [State.closeAll_of_last hlast', hnext, Nat.add_sub_add_right]

/-! ### The stall (R10) -/

theorem Window.unanchor_eq (x : Window) :
    x.unanchor = if x.record = none then x else { x with anchored := false } := by
  rw [Window.unanchor]
  cases hrecord : x.record <;> simp

theorem SessionControl.stallTime_eq (s : State) : s.sess.stallTime = fullStall s := by
  rw [SessionControl.stallTime, fullStall]
  cases s.sess.record <;> rfl

/-- The session as the stall begins. -/
def State.stalling (s : State) : State := { s with sess := { s.sess with state := .stalled, timer := none } }

/-- R10: every frame closed, the loaded windows unanchored, the STALL record. -/
theorem State.stall_eq (s : State) :
    s.stall
      = { s.stalling.closeAll .stall with
          sess :=
            { (s.stalling.closeAll .stall).sess with
              windows := (s.stalling.closeAll .stall).sess.windows.map fun x =>
                if x.record = none then x else { x with anchored := false } }
          rw := filed (s.stalling.closeAll .stall).rw
            ⟨.stall, 0, (s.stalling.closeAll .stall).ft.newest, s.ft.closeAllCount, fullStall s⟩ } := by
  have hwindows : ∀ l : List Window,
      l.map Window.unanchor = l.map fun x => if x.record = none then x else { x with anchored := false } :=
    fun l => List.map_congr_left fun x _ => x.unanchor_eq
  rw [← hwindows, ← SessionControl.stallTime_eq, State.stall, State.file_eq_filed]
  rfl

theorem ft_closeAllCount_eq (s : State) :
    s.ft.closeAllCount
      = match s.ft.frames.getLast? with
        | some f => f.number + 1 - nextNumber s
        | none => 0 := rfl

theorem State.closeAll_reference (s : State) (cause : Cause) : (s.closeAll cause).ft.reference = s.ft.reference := by
  unfold State.closeAll
  split
  · exact (State.closeRun_ft cause _ _ s).2.2.1
  · rfl

theorem exec_stallTimerExpiry {s : State} (hsettled : Settled s) :
    exec .stallTimerExpiry s = .next (if s.sess.state = .running then (quiet s).stall else quiet s) := by
  have hexec : exec .stallTimerExpiry s = execStallTimerExpiry s := rfl
  rw [hexec, execStallTimerExpiry, State.ready_of_settled hsettled]
  exact (apply_ite Host.Outcome.next _ _ _).symm

/-- Settles O44: the stall in a state in frame order, its whole next state, and the closing of every frame by turns. -/
theorem stallClosesEveryFrame : Obligations.StallClosesEveryFrame := by
  unfold Obligations.StallClosesEveryFrame
  refine ⟨fun s hsettled horder => ⟨fun hother => ?_, fun hrunning => ?_, fun hrunning => ?_⟩,
    fun s cause horder hlow => ⟨fun hempty => State.closeAll_of_empty hempty cause, fun hheld => ?_⟩⟩
  · rw [exec_stallTimerExpiry hsettled, if_neg hother]
  · rw [exec_stallTimerExpiry hsettled, if_pos hrunning, State.stall_eq]
    have hspaced : (quiet s).stalling.orderView.Spaced :=
      (horder.of_view (t := quiet s) rfl).spaced.withState (by rw [State.orderView, quiet, hrunning]; exact SessionState.noConfusion) .stalled
    obtain ⟨hpath, hcmd, hstraps, hports, hreport, hpending, hstate, hrecord, hserial, hresume, htimer⟩ :=
      (quiet s).stalling.closeAll_frame .stall
    refine ⟨_, rfl, hstate, htimer, State.closeAll_frames hspaced .stall, State.closeAll_newest hspaced .stall,
      State.closeAll_reference _ .stall, List.forall_mem_map.mpr fun x _ => ?_, hrecord, hserial, hresume, hcmd, hpath,
      hstraps, hports, hreport.trans hsettled.1, hpending⟩
    split
    · next hnone => exact fun hloaded => absurd hnone hloaded
    · exact fun _ => rfl
  · intro stalling c closed
    rw [exec_stallTimerExpiry hsettled, if_pos hrunning, State.stall_eq, ft_closeAllCount_eq]
    rfl
  · have h := State.closeAll_eq_closeOne horder (fun f hf => (ft_nextNumber_eq s).trans_le (hlow f hf)) hheld cause
    rwa [ft_nextNumber_eq] at h

end Sys2Proof.Machine
end

section
/-! What the close of a frame does, step by step: the tracks, the windows, their records, and the whole close. -/

namespace Sys2Proof.Machine
open Sys2Proof.Spec

/-! ### Tracks at a close -/

theorem any_isSome_eq_false_iff (held : List Frame) (t : Nat) :
    (held.any fun h => (h.winner t).isSome) = false ↔ ∀ h ∈ held, h.winner t = none := by
  simp [Option.isSome_iff_ne_none]

theorem Track.miss_loses_iff (x : Track) (held : List Frame) (t : Nat) :
    x.miss.loses (held.any fun h => (h.winner t).isSome) = true
      ↔ x.status = .active ∧ x.record.lossLimit ≤ min (x.run + 1) 255 ∧ ∀ h ∈ held, h.winner t = none := by
  rw [← any_isSome_eq_false_iff]
  simp only [Track.loses, Bool.and_eq_true, beq_iff_eq, decide_eq_true_eq, Bool.not_eq_true', and_assoc]
  exact Iff.rfl

theorem closeTracks_getElem? {f : Frame} {held : List Frame} {ts : List Track} {t : Nat} {x : Track}
    (hx : ts[t]? = some x) :
    (closeTracks f held 0 ts)[t]?
      = some (if x.record.enabled then x.close (f.wonBy t) (held.any fun h => (h.winner t).isSome) else x) := by
  simp [closeTracks_eq, List.getElem?_zipIdx, hx]

theorem Track.close_missed (x : Track) (held : List Frame) (t : Nat) :
    x.close none (held.any fun h => (h.winner t).isSome)
      = { x with
          absentFrames := satInc x.absentFrames, run := min (x.run + 1) 255, last := none
          status := if x.status = .active ∧ x.record.lossLimit ≤ min (x.run + 1) 255
              ∧ ∀ h ∈ held, h.winner t = none then .lost else x.status } := by
  rw [Track.close, if_congr (x.miss_loses_iff held t) rfl rfl]
  split <;> rfl

/-- R34: the record of a missed track that becomes LOST. -/
theorem closeTrackRecords_eq_flatMap (f : Frame) (held : List Frame) (ts : List Track) :
    closeTrackRecords f held 0 ts
      = ts.zipIdx.flatMap fun (x, t) =>
        if x.record.enabled = true ∧ f.winner t = none ∧ x.status = .active ∧ x.record.lossLimit ≤ min (x.run + 1) 255
            ∧ ∀ h ∈ held, h.winner t = none then
          [(⟨.trackLost, t, some f.number, x.record.lossLimit, satInc x.absentFrames⟩ : Record)]
        else [] := by
  rw [closeTrackRecords_eq]
  refine List.flatMap_congr fun p _ => ?_
  obtain ⟨x, t⟩ := p
  simp only [Frame.wonBy]
  cases hwin : f.winner t with
  | some w => simp [Track.lostRecords]
  | none =>
    simp only [Option.map_none, Track.lostRecords, true_and]
    rw [if_congr (x.miss_loses_iff held t) rfl rfl]
    by_cases hon : x.record.enabled = true
    · simp only [hon, if_true, true_and]
      rfl
    · simp [hon]

/-! ### Windows at a close -/

theorem sourceWindow_eq (x : Option Source) (w : Nat) :
    ((x.map fun p => p.window) == some w) = x.any fun p => p.window == w := by
  cases x <;> simp

theorem hasSourceLane_eq (tracks : List Track) (w : Nat) :
    hasSourceLane tracks w
      = tracks.any fun z => z.record.enabled
          && (z.record.primary.any (fun p => p.window == w) || z.record.alternate.any fun p => p.window == w) := by
  simp only [hasSourceLane, sourceWindow_eq]

theorem window_eq_iff (p : Source) (w : Nat) : p.window = w ↔ ∃ lane, p = ⟨w, lane⟩ := by
  obtain ⟨v, lane⟩ := p
  simp

theorem hasSourceLane_iff (tracks : List Track) (w : Nat) :
    hasSourceLane tracks w = true ↔ ∃ lane, ∃ z ∈ tracks, Names z ⟨w, lane⟩ := by
  simp only [hasSourceLane_eq, List.any_eq_true, Bool.and_eq_true, Bool.or_eq_true, Option.any_eq_true, beq_iff_eq]
  constructor
  · rintro ⟨z, hz, hon, ⟨p, hp, rfl⟩ | ⟨p, hp, rfl⟩⟩
    · exact ⟨p.lane, z, hz, hon, .inl hp⟩
    · exact ⟨p.lane, z, hz, hon, .inr hp⟩
  · rintro ⟨lane, z, hz, hon, hp | hp⟩
    · exact ⟨z, hz, hon, .inl ⟨_, hp, rfl⟩⟩
    · exact ⟨z, hz, hon, .inr ⟨_, hp, rfl⟩⟩

theorem Frame.heard_iff (f : Frame) (w : Nat) : f.heard w = true ↔ ∃ p ∈ f.completed, p.window = w := by
  simp [Frame.heard]

/-- R22: a window at the close of a frame, by what it holds. -/
theorem closeWindows_getElem?_unloaded {tracks : List Track} {f : Frame} {ws : List Window} {w : Nat} {y : Window}
    (hy : ws[w]? = some y) (hrec : y.record = none) : (closeWindows tracks f 0 ws)[w]? = some y := by
  simp [closeWindows_eq, List.getElem?_zipIdx, hy, hrec]

theorem closeWindows_getElem?_of_no_source {tracks : List Track} {f : Frame} {ws : List Window} {w : Nat} {y : Window}
    (hy : ws[w]? = some y) (hsource : hasSourceLane tracks w = false) :
    (closeWindows tracks f 0 ws)[w]? = some y := by
  cases hrec : y.record <;> simp [closeWindows_eq, List.getElem?_zipIdx, hy, hrec, hsource]

theorem closeWindows_getElem?_of_source {tracks : List Track} {f : Frame} {ws : List Window} {w : Nat} {y : Window}
    {rec : WindowRecord} (hy : ws[w]? = some y) (hrec : y.record = some rec) (hsource : hasSourceLane tracks w = true) :
    (closeWindows tracks f 0 ws)[w]? = some (y.close rec.liveLimit (f.heard w)) := by
  simp [closeWindows_eq, List.getElem?_zipIdx, hy, hrec, hsource]

theorem loses_iff (y : Window) (limit : Nat) :
    (y.liveness == .live && decide (limit ≤ min (y.missed + 1) maxRun)) = true
      ↔ y.liveness = .live ∧ limit ≤ min (y.missed + 1) 255 := by
  rw [Bool.and_eq_true, beq_iff_eq, decide_eq_true_eq]
  exact Iff.rfl

theorem Window.close_eq (y : Window) (limit : Nat) (f : Frame) (w : Nat) :
    y.close limit (f.heard w)
      = if ∃ p ∈ f.completed, p.window = w then
          { y with missed := 0, liveness := .live, changed := y.changed || y.liveness == .lost }
        else if y.liveness = .live ∧ limit ≤ min (y.missed + 1) 255 then
          { y with missed := min (y.missed + 1) 255, liveness := .lost, changed := true }
        else { y with missed := min (y.missed + 1) 255 } := by
  rw [Window.close, if_congr (f.heard_iff w) rfl rfl]
  exact if_congr Iff.rfl rfl (if_congr (loses_iff y limit) rfl rfl)

theorem closeWindowRecords_eq_flatMap (tracks : List Track) (f : Frame) (ws : List Window) :
    closeWindowRecords tracks f 0 ws
      = ws.zipIdx.flatMap fun (y, w) => y.record.toList.flatMap fun rec =>
        if (tracks.any fun z => z.record.enabled
            && (z.record.primary.any (fun p => p.window == w) || z.record.alternate.any fun p => p.window == w)) = false
        then []
        else if f.completed.any fun p => p.window == w then
          (if y.liveness = .lost then [(⟨.windowBack, w, some f.number, 0, 0⟩ : Record)] else [])
        else if y.liveness = .live ∧ rec.liveLimit ≤ min (y.missed + 1) 255 then
          [⟨.windowLost, w, some f.number, rec.liveLimit, 0⟩]
        else [] := by
  rw [closeWindowRecords_eq]
  refine List.flatMap_congr fun p _ => ?_
  obtain ⟨y, w⟩ := p
  cases hrec : y.record with
  | none => simp [hrec]
  | some rec =>
    simp only [hrec, Option.toList_some, List.flatMap_cons, List.flatMap_nil, List.append_nil, ← hasSourceLane_eq]
    cases hasSourceLane tracks w with
    | false => simp
    | true =>
      simp only [if_true, Bool.true_eq_false, if_false, Window.closeRecords, Frame.heard, beq_iff_eq]
      rw [if_congr (loses_iff y rec.liveLimit) rfl rfl]

/-! ### The evaluation and the whole close -/

theorem eitherOrder_eq (k : Nat) (a b : List Record) : eitherOrder k a b = inEitherOrder k a b := by
  cases a with
  | nil => simp [eitherOrder, inEitherOrder]
  | cons x xs => cases b <;> simp [eitherOrder, inEitherOrder]

theorem State.fileEither_eq_filedAll (s : State) (a b : List Record) :
    s.fileEither a b = { s with rw := filedAll s.rw (inEitherOrder s.freeCount a b), freeCount := s.freeCount + 1 } := by
  rw [State.fileEither, eitherOrder_eq, State.fileAll_eq_filedAll]
  rfl

theorem State.evaluateClose_eq (s : State) (f : Frame) :
    s.evaluateClose f
      = { s with
          sess := { s.sess with windows := closeWindows s.tracks f 0 s.sess.windows }
          tracks := closeTracks f s.ft.frames 0 s.tracks
          rw := filedAll s.rw (inEitherOrder s.freeCount (closeWindowRecords s.tracks f 0 s.sess.windows)
            (closeTrackRecords f s.ft.frames 0 s.tracks))
          freeCount := s.freeCount + 1 } := by
  rw [State.evaluateClose, State.fileEither_eq_filedAll]
  rfl

theorem absentCount_eq (f : Frame) (n : Nat) (ts : List Track) :
    absentCount f n ts = ((ts.zipIdx n).filter fun p => p.1.record.enabled && (f.winner p.2).isNone).length := by
  induction ts generalizing n with
  | nil => rfl
  | cons x xs ih =>
    rw [absentCount, ih, List.zipIdx_cons, List.filter_cons]
    split <;> simp [Nat.add_comm]

theorem Track.close_record (x : Track) (won : Option Role) (winsElsewhere : Bool) :
    (x.close won winsElsewhere).record = x.record := by
  cases won with
  | some r => rfl
  | none =>
    rw [Track.close]
    dsimp only
    split <;> rfl

theorem absentCount_closeTracks (f : Frame) (held : List Frame) (n : Nat) (ts : List Track) :
    absentCount f n (closeTracks f held n ts) = absentCount f n ts := by
  induction ts generalizing n with
  | nil => rfl
  | cons x xs ih =>
    simp only [closeTracks, absentCount, ih]
    split <;> simp [Track.close_record]

theorem SessionControl.info_eq (c : SessionControl) :
    c.info = ⟨c.serial, c.blockSize, (c.record.map fun r => r.rate.code).getD 0⟩ := by
  unfold SessionControl.info
  cases c.record <;> rfl

theorem filedAll_append (w : ReportWriter) (a b : List Record) : filedAll w (a ++ b) = filedAll (filedAll w a) b :=
  List.foldl_append

theorem State.produce_eq (s : State) (f : Frame) :
    let mixed := finalise s.sess.blockSize s.buses f
    let archived := s.aw.takeFrame s.sess.info f s.ft.newest
    let streamed := s.sw.takeFrame s.sess.info f mixed.final
    s.produce f
      = { s with
          buses := mixed.buses
          aw := archived.1
          sw := streamed.1
          rw := filedAll s.rw (inEitherOrder s.freeCount mixed.records archived.2 ++ streamed.2)
          freeCount := s.freeCount + 1 } := by
  intro mixed archived streamed
  rw [State.produce, State.fileEither_eq_filedAll, State.fileAll_eq_filedAll, filedAll_append]
  rfl

theorem countClose_eq (c : FrameCounters) (cause : Cause) (empty : Bool) :
    c.countClose cause empty
      = { c with
          closed := satInc c.closed
          empty := if empty then satInc c.empty else c.empty
          complete := if cause = .complete then satInc c.complete else c.complete
          lateness := if cause = .lateness then satInc c.lateness else c.lateness
          stall := if cause = .stall then satInc c.stall else c.stall
          stop := if cause = .stop then satInc c.stop else c.stop } := by
  simp only [FrameCounters.countClose, beq_iff_eq]

/-- R48, steps 1 and 2: the state once the frame's number is closed and its buffers are freed. -/
def State.afterLeaving (s : State) (g : Nat) : State :=
  { s with
    ft := { s.ft with frames := s.ft.frames.filter fun x => x.number != g, newest := some g }
    buffers := s.buffers.filter fun b => b.frame != g
    sess :=
      { s.sess with
        windows := s.sess.windows.zipIdx.map fun (x, w) =>
          { x with
            lateArmed := true
            counts :=
              { x.counts with
                incomplete := min (x.counts.incomplete
                  + (s.buffers.filter fun b => b.frame == g && b.window == w).length) 4294967295 } } } }

theorem State.abandonBuffers_closeNumber (s : State) (g : Nat) :
    (s.closeNumber g).abandonBuffers g = s.afterLeaving g := by
  have hwindows : countAbandoned s.buffers g 0 (s.sess.windows.map fun w => { w with lateArmed := true })
      = (s.afterLeaving g).sess.windows := by
    rw [countAbandoned_eq, List.zipIdx_map, List.map_map]
    refine List.map_congr_left fun p _ => ?_
    simp only [Function.comp_apply, abandonedIn, List.countP_eq_length_filter]
    rfl
  calc (s.closeNumber g).abandonBuffers g
      = { s with
          ft := { s.ft with frames := s.ft.frames.filter fun x => x.number != g, newest := some g }
          buffers := s.buffers.filter fun b => b.frame != g
          sess := { s.sess with
            windows := countAbandoned s.buffers g 0 (s.sess.windows.map fun w => { w with lateArmed := true }) } } := rfl
    _ = s.afterLeaving g := by rw [hwindows]; rfl

theorem State.closeFrame_eq (s : State) (f : Frame) (cause : Cause) (empty : Bool) :
    let judged := (s.afterLeaving f.number).evaluateClose f
    let closed : Frame := { f with absent := some (absentCount f 0 s.tracks) }
    s.closeFrame f cause empty = (judged.produce closed).countClose f.number cause empty := by
  intro judged closed
  have habsent : absentCount f 0 judged.tracks = absentCount f 0 s.tracks := absentCount_closeTracks f _ 0 s.tracks
  rw [State.closeFrame]
  simp only [State.abandonBuffers_closeNumber]
  rw [show absentCount f 0 ((s.afterLeaving f.number).evaluateClose f).tracks = absentCount f 0 s.tracks from habsent]

theorem State.closeOne_held {s : State} {g : Nat} {f : Frame} (h : s.ft.find g = some f) (cause : Cause) :
    s.closeOne g cause = s.closeFrame f cause false := by
  rw [State.closeOne, h]

theorem State.closeOne_empty {s : State} {g : Nat} (h : s.ft.find g = none) (cause : Cause) :
    s.closeOne g cause
      = s.closeFrame
          ⟨g, decide (s.ft.discontinuity = some g), [], none, [], none, none, [], [], false, false⟩ cause true := by
  have hflag : (s.ft.discontinuity == some g) = decide (s.ft.discontinuity = some g) := beq_eq_decide _ _
  rw [State.closeOne, h, ← hflag]
  rfl

/-- Settles O43: the walks over tracks and windows are maps over their numbers, so each track and window can be read
off on its own, and the close is the composition of its six steps. -/
theorem statusIsEvaluatedAtAClose : Obligations.StatusIsEvaluatedAtAClose := by
  unfold Obligations.StatusIsEvaluatedAtAClose
  refine ⟨?_, ?_, ?_, ?_⟩
  · intro s f t x hx after run
    have htrack : after.tracks[t]? = _ := closeTracks_getElem? hx
    refine ⟨fun hoff => ?_, fun win hon hwin => ?_, fun hon hwin => ?_⟩
    · simp [htrack, hoff]
    · simp [htrack, hon, Frame.wonBy, hwin, Track.close]
    · rw [htrack, if_pos hon, Frame.wonBy, hwin, Option.map_none, Track.close_missed]
  · intro s f w y hy after missed
    refine ⟨fun hrec => closeWindows_getElem?_unloaded hy hrec, fun rec hrec hsource => ?_, fun hnone => ?_⟩
    · exact (closeWindows_getElem?_of_source hy hrec ((hasSourceLane_iff _ _).2 hsource)).trans
        (congrArg some (y.close_eq rec.liveLimit f w))
    · exact closeWindows_getElem?_of_no_source hy (Bool.eq_false_iff.2 fun h => hnone ((hasSourceLane_iff _ _).1 h))
  · intro s f after isSource windowRecords trackRecords
    have hwindows : closeWindowRecords s.tracks f 0 s.sess.windows = windowRecords := closeWindowRecords_eq_flatMap _ _ _
    have htracks : closeTrackRecords f s.ft.frames 0 s.tracks = trackRecords := closeTrackRecords_eq_flatMap _ _ _
    refine ⟨?_, ?_, ?_⟩
    · exact (congrArg List.length (closeTracks_eq f s.ft.frames 0 s.tracks)).trans (by simp)
    · exact (congrArg List.length (closeWindows_eq s.tracks f 0 s.sess.windows)).trans (by simp)
    · rw [← hwindows, ← htracks]
      exact s.evaluateClose_eq f
  · intro s f cause empty left judged absent closed info mixed archived streamed count
    refine ⟨?_, fun g => ⟨fun h => State.closeOne_held h cause, fun h => State.closeOne_empty h cause⟩⟩
    have habsent : absentCount f 0 s.tracks = absent := absentCount_eq f 0 s.tracks
    have hinfo : judged.sess.info = info := judged.sess.info_eq
    rw [State.closeFrame_eq, habsent, State.produce_eq, State.countClose, countClose_eq]
    simp only [beq_iff_eq]
    rw [show ((s.afterLeaving f.number).evaluateClose f).sess.info = info from hinfo, State.setFt,
      show (s.afterLeaving f.number).evaluateClose f = judged from rfl]
    rfl

end Sys2Proof.Machine
end

section
/-! Source selection: the first copy of a track wins and is coded, a later one is compared; closing due frames. -/

namespace Sys2Proof.Machine
open Sys2Proof.Spec

/-! ### The source map (R26) -/

theorem findSome?_range_of_unique {β : Type} {n t : Nat} {b : β} {f : Nat → Option β} (ht : t < n)
    (hf : f t = some b) (hother : ∀ k, k ≠ t → f k = none) : (List.range n).findSome? f = some b := by
  induction n with
  | zero => omega
  | succ n ih =>
    rw [List.range_succ, List.findSome?_append]
    by_cases hn : t = n
    · have hnone : (List.range n).findSome? f = none :=
        List.findSome?_eq_none_iff.2 fun k hk => hother k (by have := List.mem_range.1 hk; omega)
      subst hn
      simp [hnone, hf]
    · rw [ih (by omega)]
      rfl

theorem sourceOf_of_unique {tracks : List Track} {src : Source} {t : Nat} {x : Track} (hx : tracks[t]? = some x)
    (hnames : Names x src) (hunique : ∀ k y, tracks[k]? = some y → Names y src → k = t) :
    sourceOf tracks src = some (t, if x.record.primary = some src then .primary else .alternate) := by
  unfold sourceOf
  refine findSome?_range_of_unique (List.getElem?_eq_some_iff.1 hx).1 ?_ fun k hk => ?_
  · obtain ⟨hon, hprimary | halternate⟩ := hnames
    · simp [hx, hon, hprimary]
    · by_cases hprimary : x.record.primary = some src <;> simp [hx, hon, hprimary, halternate]
  · cases hy : tracks[k]? with
    | none => rfl
    | some y =>
      have hno : ¬ Names y src := fun h => hk (hunique k y hy h)
      by_cases hon : y.record.enabled = true
      · have hsources : y.record.primary ≠ some src ∧ y.record.alternate ≠ some src :=
          ⟨fun h => hno ⟨hon, .inl h⟩, fun h => hno ⟨hon, .inr h⟩⟩
        simp [hsources]
      · simp [hon]

/-! ### The record of a held frame -/

theorem FrameTable.find_number {t : FrameTable} {g : Nat} {f : Frame} (h : t.find g = some f) : f.number = g := by
  simpa using List.find?_some h

theorem FrameTable.find_mem {t : FrameTable} {g : Nat} {f : Frame} (h : t.find g = some f) : f ∈ t.frames :=
  List.mem_of_find?_eq_some h

/-- Numbers increase along the table, so the record that is found is the only one of its number. -/
theorem State.FrameOrder.eq_of_find {s : State} (h : s.FrameOrder) {g : Nat} {f y : Frame}
    (hf : s.ft.find g = some f) (hy : y ∈ s.ft.frames) (hg : y.number = g) : y = f := by
  have hnodup : (s.ft.frames.map Frame.number).Nodup := List.pairwise_map.2 (h.order.imp Nat.ne_of_lt)
  exact List.inj_on_of_nodup_map hnodup hy (FrameTable.find_mem hf) (hg.trans (FrameTable.find_number hf).symm)

theorem State.FrameOrder.modify_eq {s : State} (h : s.FrameOrder) {g : Nat} {f : Frame} (hf : s.ft.find g = some f)
    (change : Frame → Frame) :
    s.ft.modify g change
      = { s.ft with frames := s.ft.frames.map fun y => if y.number = g then change f else y } := by
  unfold FrameTable.modify
  congr 1
  refine List.map_congr_left fun y hy => ?_
  by_cases hg : y.number = g
  · rw [if_pos hg, if_pos (beq_iff_eq.2 hg), h.eq_of_find hf hy hg]
  · rw [if_neg hg, if_neg (by simpa using hg)]

theorem FrameTable.modify_eq_map (t : FrameTable) (g : Nat) (change : Frame → Frame) :
    t.modify g change = { t with frames := t.frames.map fun y => if y.number = g then change y else y } := by
  simp only [FrameTable.modify, beq_iff_eq]

theorem FrameTable.modify_modify (t : FrameTable) (g : Nat) {change : Frame → Frame}
    (hnumber : ∀ f, (change f).number = f.number) (next : Frame → Frame) :
    (t.modify g change).modify g next = t.modify g fun f => next (change f) := by
  unfold FrameTable.modify
  simp only [List.map_map]
  congr 1
  refine List.map_congr_left fun y _ => ?_
  by_cases hg : y.number = g <;> simp [hg, hnumber]

theorem FrameTable.find_modify {t : FrameTable} {g : Nat} {f : Frame} (hf : t.find g = some f)
    {change : Frame → Frame} (hnumber : ∀ f, (change f).number = f.number) :
    (t.modify g change).find g = some (change f) := by
  have hfound : (t.modify g change).find g
      = (t.find g).map fun x => if x.number == g then change x else x := by
    simp only [FrameTable.modify, FrameTable.find, List.find?_map]
    congr 2
    funext x
    by_cases hg : x.number = g <;> simp [hg, hnumber]
  rw [hfound, hf, Option.map_some, if_pos (beq_iff_eq.2 (FrameTable.find_number hf))]

/-! ### The first copy -/

theorem trackEntry_eq (t : Nat) (c : CodedBlock) (crc : BitVec 32) :
    trackEntry t c crc
      = leBytes 1 t ++ [if c.verbatim then 2 else 1] ++ leBytes 1 c.order ++ leBytes 1 c.parameter
        ++ leBytes 2 c.bitLength ++ leBytes 2 c.payload.length ++ leBytes 4 crc.toNat ++ [0, 0, 0, 0] ++ c.payload := by
  have hkind : leBytes 1 (if c.verbatim then 2 else 1) = [if c.verbatim then 2 else 1] := by
    cases c.verbatim <;> rfl
  have hzeros : leBytes 4 0 = [0, 0, 0, 0] := rfl
  rw [trackEntry, entryHeader, hkind, hzeros]

theorem trackEntry_length_pos (t : Nat) (c : CodedBlock) (crc : BitVec 32) : 0 < (trackEntry t c crc).length := by
  rw [trackEntry_eq]
  simp only [List.length_append, List.length_cons]
  omega

theorem ArchiveWriter.fits_iff (w : ArchiveWriter) {size : Nat} (hsize : 0 < size) :
    w.fits size = true ↔ (w.staging.map fun e => e.bytes.length).sum + size ≤ 393216 := by
  rw [ArchiveWriter.fits, decide_eq_true_eq, ArchiveWriter.stagingFree, ArchiveWriter.staged, stagingSize]
  omega

/-- R79: the archive takes the block of track `t` of frame `f`. -/
abbrev Codes (s : State) (t : Nat) (f : Frame) : Prop :=
  s.aw.archiving = true ∧ t ∈ s.aw.releaseOrder ∧ f.drop = none

theorem State.codeWinner_eq {s : State} {g : Nat} {f : Frame} (hf : s.ft.find g = some f) (t : Nat)
    (samples : List Int) (crc : BitVec 32) :
    let entry := trackEntry t (codeBlock samples) crc
    s.codeWinner g t samples crc
      = if ¬ Codes s t f then s
        else if (s.aw.staging.map fun e => e.bytes.length).sum + entry.length ≤ 393216 then
          s.setAw (s.aw.stage g t entry (codeBlock samples))
        else (s.setAw (s.aw.dropStaging g)).setFt
          (s.ft.modify g fun x => { x with drop := some ⟨t, entry.length⟩ }) := by
  intro entry
  have hcodes : (s.aw.archiving && s.aw.releaseOrder.contains t && f.drop.isNone) = true ↔ Codes s t f := by
    simp [and_assoc]
  unfold State.codeWinner
  simp only [hf]
  rw [if_congr hcodes rfl rfl, ite_not]
  refine if_congr Iff.rfl (if_congr (s.aw.fits_iff (trackEntry_length_pos _ _ _)) rfl rfl) rfl

theorem Frame.accumulate_wins (f : Frame) (wins : List Win) (blockSize t : Nat) (samples : List Int) :
    ({ f with wins := wins } : Frame).accumulate blockSize t samples
      = { f.accumulate blockSize t samples with wins := wins } := by
  obtain ⟨_, _, _, snapshot⟩ := f
  cases snapshot <;> rfl

theorem Frame.accumulate_drop (f : Frame) (blockSize t : Nat) (samples : List Int) :
    (f.accumulate blockSize t samples).drop = f.drop := by
  unfold Frame.accumulate
  split <;> rfl

theorem Track.win_eq (x : Track) (role : Role) :
    x.win role
      = { x with
          alternateWins := if role = .alternate then satInc x.alternateWins else x.alternateWins
          status := if x.status = .idle then .idle else .active } := by
  unfold Track.win
  cases hrole : role <;> cases hstatus : x.status <;> simp

theorem State.track_of_getElem? (s : State) {t : Nat} {x : Track} (h : s.tracks[t]? = some x) : s.track t = x := by
  rw [State.track, List.getD_eq_getElem?_getD, h, Option.getD_some]

theorem fileAll_backRecords (s : State) (x : Track) (t g : Nat) (role : Role) :
    s.fileAll (x.backRecords t g role)
      = { s with
          rw := if x.status = .lost then filed s.rw ⟨.trackBack, t, some g, if role = .primary then 1 else 2, x.run⟩
            else s.rw } := by
  have hcode : role.code = if role = .primary then 1 else 2 := by cases role <;> rfl
  rw [State.fileAll_eq_filedAll, Track.backRecords, hcode]
  by_cases h : x.status = .lost <;> simp [h, filedAll]

/-- R28, R66, R79, R90, R91: the state after the first copy, before due frames close. -/
def State.afterWin (s : State) (g t : Nat) (x : Track) (f : Frame) (role : Role) (samples : List Int) : State :=
  let crc := blockCrc samples
  let coded := codeBlock samples
  let entry := trackEntry t coded crc
  let size := (s.aw.staging.map fun e => e.bytes.length).sum + entry.length
  { s with
    ft :=
      { s.ft with
        frames := s.ft.frames.map fun y =>
          if y.number = g then
            { f.accumulate s.sess.blockSize t samples with
              wins := f.wins ++ [⟨t, role, crc⟩]
              drop := if Codes s t f ∧ 393216 < size then some ⟨t, entry.length⟩ else f.drop }
          else y }
    tracks := s.tracks.set t
      { x with
        alternateWins := if role = .alternate then satInc x.alternateWins else x.alternateWins
        status := if x.status = .idle then .idle else .active }
    aw :=
      if ¬ Codes s t f then s.aw
      else if size ≤ 393216 then s.aw.stage g t entry coded
      else s.aw.dropStaging g
    rw := if x.status = .lost then filed s.rw ⟨.trackBack, t, some g, if role = .primary then 1 else 2, x.run⟩
      else s.rw }

/-- R28, R66: frame `f` with the win and the samples of track `t`. -/
def Frame.winTrack (f : Frame) (blockSize t : Nat) (role : Role) (samples : List Int) : Frame :=
  ({ f with wins := f.wins ++ [⟨t, role, blockCrc samples⟩] } : Frame).accumulate blockSize t samples

theorem Frame.winTrack_eq (f : Frame) (blockSize t : Nat) (role : Role) (samples : List Int) :
    f.winTrack blockSize t role samples
      = { f.accumulate blockSize t samples with wins := f.wins ++ [⟨t, role, blockCrc samples⟩] } :=
  Frame.accumulate_wins _ _ _ _ _

theorem Frame.winTrack_drop (f : Frame) (blockSize t : Nat) (role : Role) (samples : List Int) :
    (f.winTrack blockSize t role samples).drop = f.drop := Frame.accumulate_drop _ _ _ _

/-- The size of the entry that the coder makes of a block. -/
abbrev entrySize (t : Nat) (samples : List Int) : Nat :=
  (trackEntry t (codeBlock samples) (blockCrc samples)).length

/-- R91: the archive takes the block and has no room for it. -/
abbrev Overflows (s : State) (t : Nat) (f : Frame) (samples : List Int) : Prop :=
  Codes s t f ∧ 393216 < (s.aw.staging.map fun e => e.bytes.length).sum + entrySize t samples

theorem State.afterWin_ft_of_kept {s : State} (h : s.FrameOrder) {g t : Nat} {f : Frame} (hf : s.ft.find g = some f)
    (x : Track) (role : Role) {samples : List Int} (hno : ¬ Overflows s t f samples) :
    (s.afterWin g t x f role samples).ft
      = s.ft.modify g fun y => y.winTrack s.sess.blockSize t role samples := by
  rw [h.modify_eq hf, f.winTrack_eq]
  have hdrop := f.accumulate_drop s.sess.blockSize t samples
  simp only [State.afterWin, if_neg hno, ← hdrop]

theorem State.afterWin_ft_of_dropped {s : State} (h : s.FrameOrder) {g t : Nat} {f : Frame} (hf : s.ft.find g = some f)
    (x : Track) (role : Role) {samples : List Int} (hover : Overflows s t f samples) :
    (s.afterWin g t x f role samples).ft
      = (s.ft.modify g fun y => y.winTrack s.sess.blockSize t role samples).modify g fun y =>
          { y with drop := some ⟨t, entrySize t samples⟩ } := by
  have hnumber : ∀ y : Frame, (y.winTrack s.sess.blockSize t role samples).number = y.number :=
    fun y => Frame.accumulate_number _ _ _ _
  rw [FrameTable.modify_modify _ _ hnumber, h.modify_eq hf, f.winTrack_eq]
  simp only [State.afterWin, if_pos hover]

/-- R79, R90, R91: the coder's take, once the win stands in the record. -/
theorem State.codeWinner_won {s : State} (h : s.FrameOrder) {g : Nat} {f : Frame} (hf : s.ft.find g = some f)
    (t : Nat) (x : Track) (role : Role) (samples : List Int) :
    (s.setFt (s.ft.modify g fun y => y.winTrack s.sess.blockSize t role samples)).codeWinner g t samples
        (blockCrc samples)
      = { s with
          ft := (s.afterWin g t x f role samples).ft
          aw := (s.afterWin g t x f role samples).aw } := by
  have hfind : (s.setFt (s.ft.modify g fun y => y.winTrack s.sess.blockSize t role samples)).ft.find g
      = some (f.winTrack s.sess.blockSize t role samples) :=
    FrameTable.find_modify hf fun y => Frame.accumulate_number _ _ _ _
  have hcodes : Codes (s.setFt (s.ft.modify g fun y => y.winTrack s.sess.blockSize t role samples)) t
      (f.winTrack s.sess.blockSize t role samples) ↔ Codes s t f := by
    rw [Codes, Frame.winTrack_drop]
    exact Iff.rfl
  rw [State.codeWinner_eq hfind]
  by_cases hc : Codes s t f
  · rw [if_neg (not_not.2 (hcodes.2 hc))]
    by_cases hsize : (s.aw.staging.map fun e => e.bytes.length).sum + entrySize t samples ≤ 393216
    · have haw : (s.afterWin g t x f role samples).aw
          = s.aw.stage g t (trackEntry t (codeBlock samples) (blockCrc samples)) (codeBlock samples) :=
        (if_neg (not_not.2 hc)).trans (if_pos hsize)
      rw [haw, State.afterWin_ft_of_kept h hf x role fun hover => Nat.not_lt.2 hsize hover.2]
      exact if_pos hsize
    · have haw : (s.afterWin g t x f role samples).aw = s.aw.dropStaging g :=
        (if_neg (not_not.2 hc)).trans (if_neg hsize)
      rw [haw, State.afterWin_ft_of_dropped h hf x role ⟨hc, Nat.lt_of_not_le hsize⟩]
      exact if_neg hsize
  · have haw : (s.afterWin g t x f role samples).aw = s.aw := if_pos hc
    rw [if_pos (mt hcodes.1 hc), haw, State.afterWin_ft_of_kept h hf x role fun hover => hc hover.1]
    rfl

theorem State.winBlock_eq {s : State} (h : s.FrameOrder) {g t : Nat} {x : Track} {f : Frame}
    (hx : s.tracks[t]? = some x) (hf : s.ft.find g = some f) (role : Role) (samples : List Int) :
    s.winBlock g t role samples = (s.afterWin g t x f role samples).closeDue := by
  have hwon := State.codeWinner_won h hf t x role samples
  simp only [Frame.winTrack] at hwon
  rw [State.winBlock]
  simp only [hwon]
  have htrack : ∀ u : State, u.tracks = s.tracks → u.track t = x := fun u hu =>
    State.track_of_getElem? u (hu ▸ hx)
  rw [htrack _ (by rfl), fileAll_backRecords, modify_eq_set_of_getElem? _ hx, x.win_eq]
  rfl

theorem State.selectBlock_of_no_winner {s : State} (h : s.FrameOrder) {src : Source} {g t : Nat} {x : Track} {f : Frame}
    {role : Role} (hsource : sourceOf s.tracks src = some (t, role)) (hx : s.tracks[t]? = some x)
    (hf : s.ft.find g = some f) (hnone : ∀ win ∈ f.wins, win.track ≠ t) (samples : List Int) :
    s.selectBlock src g samples = (s.afterWin g t x f role samples).closeDue := by
  have hwinner : f.winner t = none := List.find?_eq_none.2 fun w hw => by simpa using hnone w hw
  rw [State.selectBlock]
  simp only [hsource, hf, Option.bind_some, hwinner]
  exact State.winBlock_eq h hx hf role samples

/-! ### A later copy -/

theorem State.secondCopy_eq {s : State} (h : s.FrameOrder) {g t : Nat} {x : Track} {f : Frame}
    (hx : s.tracks[t]? = some x) (hf : s.ft.find g = some f) (stored : BitVec 32) (samples : List Int) :
    s.secondCopy g t stored samples
      = if x.record.compare = false then s
        else if blockCrc samples = stored then
          { s with tracks := s.tracks.set t { x with compared := satInc x.compared } }
        else
          { s with
            tracks := s.tracks.set t
              { x with compared := satInc x.compared, disagreements := satInc x.disagreements }
            ft :=
              { s.ft with frames := s.ft.frames.map fun y => if y.number = g then { y with disagreed := true } else y }
            rw := if f.disagreed then s.rw
              else filed s.rw ⟨.sourceDisagree, t, some g, stored.toNat, (blockCrc samples).toNat⟩ } := by
  have htracks : s.tracks.modify t (fun y => y.compare (blockCrc samples == stored))
      = s.tracks.set t (x.compare (blockCrc samples == stored)) := modify_eq_set_of_getElem? _ hx
  have hmarked : f.disagreed = true →
      (s.ft.frames.map fun y => if y.number = g then { y with disagreed := true } else y) = s.ft.frames := by
    intro hd
    refine (List.map_congr_left fun y hy => ?_).trans (List.map_id _)
    split
    · next hg => rw [h.eq_of_find hf hy hg, ← hd]; rfl
    · rfl
  rw [State.secondCopy, State.track_of_getElem? s hx]
  simp only [htracks, hf]
  by_cases hcompare : x.record.compare = true
  · have hon : ¬ x.record.compare = false := by simp [hcompare]
    rw [if_pos hcompare, if_neg hon]
    by_cases hcrc : blockCrc samples = stored
    · have hcompared : x.compare (blockCrc samples == stored) = { x with compared := satInc x.compared } := by
        simp [Track.compare, hcrc]
      rw [if_pos hcrc, hcompared, if_pos (by simp [hcrc])]
      rfl
    · have hcompared : x.compare (blockCrc samples == stored)
          = { x with compared := satInc x.compared, disagreements := satInc x.disagreements } := by
        simp [Track.compare, hcrc]
      rw [if_neg hcrc, hcompared]
      cases hd : f.disagreed with
      | true =>
        rw [if_pos (by simp), if_pos rfl, hmarked hd]
        rfl
      | false =>
        rw [if_neg (by simp [hcrc]), if_neg (by simp), State.file_eq_filed, FrameTable.modify_eq_map]
        rfl
  · simp [hcompare]

/-! ### Closing due frames (R46, R47) -/

theorem FrameTable.dueFrame_iff (s : State) (f : Frame) : s.ft.dueFrame = some f ↔ Due s f := by
  rw [FrameTable.dueFrame, Option.filter_eq_some_iff, ft_nextNumber_eq]
  simp only [FrameTable.isComplete, Frame.winnerCount, beq_iff_eq]

theorem State.closeComplete_of_due {s : State} {f : Frame} (h : Due s f) (fuel : Nat) :
    State.closeComplete (fuel + 1) s = State.closeComplete fuel (s.closeFrame f .complete false) := by
  rw [State.closeComplete, (FrameTable.dueFrame_iff s f).2 h]

theorem State.closeComplete_of_none {s : State} (h : ∀ f, ¬ Due s f) (fuel : Nat) :
    State.closeComplete fuel s = s := by
  have hdue : s.ft.dueFrame = none := Option.eq_none_iff_forall_ne_some.2 fun f hf =>
    h f ((FrameTable.dueFrame_iff s f).1 hf)
  cases fuel with
  | zero => rfl
  | succ fuel => rw [State.closeComplete, hdue]

/-- A due frame leaves the table, so fewer records are held behind it. -/
theorem State.closeFrame_frames_length_lt {s : State} {f : Frame} (h : Due s f) :
    (s.closeFrame f .complete false).ft.frames.length < s.ft.frames.length := by
  rw [State.closeFrame_ft]
  exact List.length_filter_lt_length_iff_exists.2 ⟨f, FrameTable.find_mem h.1, by simp⟩

/-- Fuel beyond the number of held records changes nothing. -/
theorem State.closeComplete_eq_closeDue {fuel : Nat} {s : State} (h : s.ft.frames.length ≤ fuel) :
    State.closeComplete fuel s = s.closeDue := by
  have key : ∀ (n m : Nat) (s : State), s.ft.frames.length ≤ n → s.ft.frames.length ≤ m →
      State.closeComplete n s = State.closeComplete m s := by
    intro n
    induction n with
    | zero =>
      intro m s hn _
      have hempty : s.ft.frames = [] := List.length_eq_zero_iff.1 (Nat.le_zero.1 hn)
      exact (State.closeComplete_of_none (s := s) (fun f hf => by
        have hmem := FrameTable.find_mem hf.1
        rw [hempty] at hmem
        exact List.not_mem_nil hmem) m).symm
    | succ n ih =>
      intro m s hn hm
      by_cases hdue : ∃ f, Due s f
      · obtain ⟨f, hf⟩ := hdue
        have hless := State.closeFrame_frames_length_lt hf
        obtain ⟨m, rfl⟩ : ∃ k, m = k + 1 := ⟨m - 1, by omega⟩
        rw [State.closeComplete_of_due hf, State.closeComplete_of_due hf, ih m _ (by omega) (by omega)]
      · have hnone : ∀ f, ¬ Due s f := fun f hf => hdue ⟨f, hf⟩
        rw [State.closeComplete_of_none hnone, State.closeComplete_of_none hnone]
  exact key _ _ s h le_rfl

theorem State.closeDue_of_due {s : State} {f : Frame} (h : Due s f) :
    s.closeDue = (s.closeFrame f .complete false).closeDue := by
  have hless := State.closeFrame_frames_length_lt h
  obtain ⟨n, hn⟩ : ∃ n, s.ft.frames.length = n + 1 := ⟨s.ft.frames.length - 1, by omega⟩
  rw [State.closeDue, hn, State.closeComplete_of_due h, State.closeComplete_eq_closeDue (by omega)]

/-- Settles O42: the only track that names the source decides between the win and the comparison. -/
theorem firstCopyWinsAndSecondIsCompared : Obligations.FirstCopyWinsAndSecondIsCompared := by
  unfold Obligations.FirstCopyWinsAndSecondIsCompared
  refine ⟨?_, fun s => ⟨fun f => State.closeDue_of_due, fun hnone => State.closeComplete_of_none hnone _⟩⟩
  intro s src g t samples x f h hx hnames hunique hf crc role coded entry codes size
  have hsource : sourceOf s.tracks src = some (t, role) := sourceOf_of_unique hx hnames hunique
  refine ⟨fun hnone => ?_, fun win hwin => ?_⟩
  · rw [State.selectBlock_of_no_winner h hsource hx hf hnone, State.afterWin]
    simp only [trackEntry_eq]
    rfl
  · rw [State.selectBlock]
    simp only [hsource, hf, Option.bind_some, hwin]
    exact State.secondCopy_eq h hx hf win.crc samples

end Sys2Proof.Machine
end

section
/-! What the session's part of a window write reads: it neither reads nor changes the path, the ports and the mirror
base of a window, and it keeps every window record. -/

namespace Sys2Proof.Machine
open Sys2Proof.Spec

/-! ### What surrounds the session -/

/-- A path, ports and a change of the mirror base of one window. -/
structure Surroundings where
  path : PathUnit
  ports : Ports
  window : Nat
  mirror : Option Nat → Option Nat

/-- A window with another mirror base. -/
def Window.remirror (k : Option Nat → Option Nat) (x : Window) : Window :=
  { x with record := x.record.map fun r => { r with mirror := k r.mirror } }

/-- The window table in other surroundings. -/
def Surroundings.windows (e : Surroundings) (ws : List Window) : List Window :=
  ws.modify e.window (Window.remirror e.mirror)

/-- The state in other surroundings. -/
def State.within (e : Surroundings) (s : State) : State :=
  { s with path := e.path, ports := e.ports, sess := { s.sess with windows := e.windows s.sess.windows } }

theorem State.within_ite (e : Surroundings) {c : Prop} [Decidable c] (a b : State) :
    (if c then a else b).within e = if c then a.within e else b.within e := by
  split <;> rfl

/-- A walk over the windows that answers with windows commutes with a change of one of them. -/
theorem zipIdx_map_modify {f : Window × Nat → Window} {k : Window → Window} (h : ∀ x i, f (k x, i) = k (f (x, i)))
    (ws : List Window) (w : Nat) : ((ws.modify w k).zipIdx.map f) = (ws.zipIdx.map f).modify w k := by
  refine List.ext_getElem? fun i => ?_
  simp only [List.getElem?_map, List.getElem?_zipIdx, List.getElem?_modify]
  cases ws[i]? with
  | none => rfl
  | some x => by_cases hw : w = i <;> simp [hw, h]

/-- A walk that does not see the change answers the same. -/
theorem zipIdx_map_modify_of_blind {β : Type} {f : Window × Nat → β} {k : Window → Window}
    (h : ∀ x i, f (k x, i) = f (x, i)) (ws : List Window) (w : Nat) :
    (ws.modify w k).zipIdx.map f = ws.zipIdx.map f := by
  refine List.ext_getElem? fun i => ?_
  simp only [List.getElem?_map, List.getElem?_zipIdx, List.getElem?_modify]
  cases ws[i]? with
  | none => rfl
  | some x => by_cases hw : w = i <;> simp [hw, h]

theorem Surroundings.map_windows (e : Surroundings) {f : Window → Window}
    (h : ∀ x, f (x.remirror e.mirror) = (f x).remirror e.mirror) (ws : List Window) :
    (e.windows ws).map f = e.windows (ws.map f) := by
  refine List.ext_getElem? fun i => ?_
  simp only [Surroundings.windows, List.getElem?_map, List.getElem?_modify]
  cases ws[i]? with
  | none => rfl
  | some x => by_cases hw : e.window = i <;> simp [hw, h]

theorem Surroundings.modify_windows (e : Surroundings) {f : Window → Window}
    (h : ∀ x, f (x.remirror e.mirror) = (f x).remirror e.mirror) (ws : List Window) (v : Nat) :
    (e.windows ws).modify v f = e.windows (ws.modify v f) := by
  refine List.ext_getElem? fun i => ?_
  simp only [Surroundings.windows, List.getElem?_modify]
  cases ws[i]? with
  | none => rfl
  | some x => by_cases hw : e.window = i <;> by_cases hv : v = i <;> simp [hw, hv, h]

theorem Surroundings.getD_windows (e : Surroundings) {ws : List Window} (v : Nat) :
    ∃ k, (e.windows ws).getD v Window.unloaded = (ws.getD v Window.unloaded).remirror k := by
  simp only [Surroundings.windows, List.getD_eq_getElem?_getD, List.getElem?_modify]
  cases ws[v]? with
  | none => exact ⟨id, rfl⟩
  | some x =>
    by_cases hw : e.window = v
    · exact ⟨e.mirror, by simp [hw]⟩
    · refine ⟨id, ?_⟩
      obtain ⟨record⟩ := x
      cases record <;> simp [hw, Window.remirror]

/-! ### Closing and opening frames -/

variable (e : Surroundings)

theorem Window.close_remirror (k : Option Nat → Option Nat) (x : Window) (limit : Nat) (heard : Bool) :
    (x.remirror k).close limit heard = (x.close limit heard).remirror k := by
  cases heard with
  | true => rfl
  | false =>
    have hlost : ∀ b : Bool, (if b then
          { x.remirror k with missed := min (x.missed + 1) maxRun, liveness := .lost, changed := true }
        else { x.remirror k with missed := min (x.missed + 1) maxRun })
        = (if b then { x with missed := min (x.missed + 1) maxRun, liveness := .lost, changed := true }
          else { x with missed := min (x.missed + 1) maxRun }).remirror k := fun b => by cases b <;> rfl
    exact hlost _

theorem closeWindows_windows (tracks : List Track) (f : Frame) (ws : List Window) :
    closeWindows tracks f 0 (e.windows ws) = e.windows (closeWindows tracks f 0 ws) := by
  simp only [closeWindows_eq]
  refine zipIdx_map_modify (fun x i => ?_) ws e.window
  obtain ⟨record⟩ := x
  cases record with
  | none => rfl
  | some r =>
    cases hsource : hasSourceLane tracks i with
    | true => simpa [Window.remirror] using Window.close_remirror e.mirror ⟨some r, _, _, _, _, _, _, _, _, _⟩ _ _
    | false => simp [Window.remirror]

theorem closeWindowRecords_windows (tracks : List Track) (f : Frame) (ws : List Window) :
    closeWindowRecords tracks f 0 (e.windows ws) = closeWindowRecords tracks f 0 ws := by
  simp only [closeWindowRecords_eq, List.flatMap_def]
  refine congrArg List.flatten (zipIdx_map_modify_of_blind (fun x i => ?_) ws e.window)
  obtain ⟨record⟩ := x
  cases record <;> rfl

theorem State.within_afterLeaving (s : State) (g : Nat) : (s.within e).afterLeaving g = (s.afterLeaving g).within e := by
  refine congrArg (fun ws => ({ s.afterLeaving g with
    path := e.path, ports := e.ports, sess := { s.sess with windows := ws } } : State)) ?_
  exact zipIdx_map_modify (fun _ _ => rfl) s.sess.windows e.window

theorem State.within_evaluateClose (s : State) (f : Frame) :
    (s.within e).evaluateClose f = (s.evaluateClose f).within e := by
  have hwindows := closeWindows_windows e s.tracks f s.sess.windows
  have hrecords := closeWindowRecords_windows e s.tracks f s.sess.windows
  exact congrArg₂ (fun ws rs => ({ s.evaluateClose f with
    path := e.path, ports := e.ports, sess := { s.sess with windows := ws }
    rw := (s.fileEither rs (closeTrackRecords f s.ft.frames 0 s.tracks)).rw } : State)) hwindows hrecords

theorem State.within_closeFrame (s : State) (f : Frame) (cause : Cause) (empty : Bool) :
    (s.within e).closeFrame f cause empty = (s.closeFrame f cause empty).within e := by
  simp only [State.closeFrame_eq, State.within_afterLeaving, State.within_evaluateClose]
  rfl

theorem State.within_closeOne (s : State) (g : Nat) (cause : Cause) :
    (s.within e).closeOne g cause = (s.closeOne g cause).within e := by
  have hfind : (s.within e).ft.find g = s.ft.find g := rfl
  cases h : s.ft.find g with
  | some f => rw [State.closeOne_held (hfind.trans h), State.closeOne_held h, State.within_closeFrame]
  | none =>
    rw [State.closeOne_empty (hfind.trans h), State.closeOne_empty h, State.within_closeFrame]
    rfl

theorem State.within_closeRun (cause : Cause) (count g : Nat) (s : State) :
    State.closeRun cause count g (s.within e) = (State.closeRun cause count g s).within e := by
  induction count generalizing g s with
  | zero => rfl
  | succ count ih => rw [State.closeRun, State.closeRun, State.within_closeOne, ih]

theorem State.within_closeBelow (s : State) (limit : Nat) (cause : Cause) :
    (s.within e).closeBelow limit cause = (s.closeBelow limit cause).within e :=
  State.within_closeRun e cause _ _ s

theorem State.within_closeComplete (fuel : Nat) (s : State) :
    State.closeComplete fuel (s.within e) = (State.closeComplete fuel s).within e := by
  induction fuel generalizing s with
  | zero => rfl
  | succ fuel ih =>
    have hdue : (s.within e).ft.dueFrame = s.ft.dueFrame := rfl
    rw [State.closeComplete, State.closeComplete, hdue]
    cases s.ft.dueFrame with
    | none => rfl
    | some f => exact (congrArg (State.closeComplete fuel) (s.within_closeFrame e f .complete false)).trans (ih _)

theorem State.within_closeDue (s : State) : (s.within e).closeDue = s.closeDue.within e :=
  State.within_closeComplete e _ s

theorem State.within_insertNew (s : State) (g : Nat) : (s.within e).insertNew g = (s.insertNew g).within e := by
  have hwindows := e.map_windows (f := fun x => { x with strayArmed := true }) (fun _ => rfl) s.sess.windows
  exact congrArg (fun ws => ({ s.insertNew g with
    path := e.path, ports := e.ports, sess := { s.sess with windows := ws } } : State)) hwindows

theorem State.within_openFrame (s : State) (g : Nat) : (s.within e).openFrame g = (s.openFrame g).within e := by
  rw [State.openFrame, State.openFrame, State.within_closeBelow, State.within_closeDue, State.within_insertNew]
  rfl

/-! ### The capture path -/

theorem State.within_codeWinner (s : State) (g t : Nat) (samples : List Int) (crc : BitVec 32) :
    (s.within e).codeWinner g t samples crc = (s.codeWinner g t samples crc).within e := by
  unfold State.codeWinner
  simp only [State.within_ite]
  rfl

theorem State.within_winBlock (s : State) (g t : Nat) (role : Role) (samples : List Int) :
    (s.within e).winBlock g t role samples = (s.winBlock g t role samples).within e := by
  unfold State.winBlock
  rw [← State.within_closeDue]
  exact congrArg State.closeDue (congrArg (fun u : State =>
    (u.setTracks (u.tracks.modify t fun x => x.win role)).fileAll ((u.track t).backRecords t g role))
      (State.within_codeWinner e (s.setFt (s.ft.modify g fun f => f.winTrack s.sess.blockSize t role samples)) g t samples
        (blockCrc samples)))

theorem State.within_secondCopy (s : State) (g t : Nat) (stored : BitVec 32) (samples : List Int) :
    (s.within e).secondCopy g t stored samples = (s.secondCopy g t stored samples).within e := by
  unfold State.secondCopy
  simp only [State.within_ite]
  rfl

theorem State.within_selectBlock (s : State) (src : Source) (g : Nat) (samples : List Int) :
    (s.within e).selectBlock src g samples = (s.selectBlock src g samples).within e := by
  have hsource : sourceOf (s.within e).tracks src = sourceOf s.tracks src := rfl
  have hfind : (s.within e).ft.find g = s.ft.find g := rfl
  unfold State.selectBlock
  rw [hsource, hfind]
  cases sourceOf s.tracks src with
  | none => rfl
  | some p =>
    obtain ⟨t, role⟩ := p
    cases hwinner : (s.ft.find g).bind fun f => f.winner t with
    | none => simpa only [hwinner] using s.within_winBlock e g t role samples
    | some w => simpa only [hwinner] using s.within_secondCopy e g t w.crc samples

theorem State.within_modifyWindow (s : State) {f : Window → Window}
    (h : ∀ x, f (x.remirror e.mirror) = (f x).remirror e.mirror) (v : Nat) :
    (s.within e).setSess ((s.within e).sess.modifyWindow v f) = (s.setSess (s.sess.modifyWindow v f)).within e :=
  congrArg (fun ws => ({ s with path := e.path, ports := e.ports, sess := { s.sess with windows := ws } } : State))
    (e.modify_windows h s.sess.windows v)

theorem State.within_countWindow (s : State) (v : Nat) (f : WindowCounters → WindowCounters) :
    (s.within e).countWindow v f = (s.countWindow v f).within e :=
  State.within_modifyWindow e s (f := fun x => { x with counts := f x.counts }) (fun _ => rfl) v

theorem State.within_window (s : State) (v : Nat) : ∃ k, (s.within e).sess.window v = (s.sess.window v).remirror k :=
  e.getD_windows v

/-- A record made of a window's counters is the same in other surroundings. -/
theorem State.within_fileOfWindow {t u : State} (h : t = u.within e) (v : Nat) (record : WindowCounters → Record) :
    t.file (record (t.sess.window v).counts) = (u.file (record (u.sess.window v).counts)).within e := by
  obtain ⟨k, hk⟩ := u.within_window e v
  rw [h, hk]
  rfl

theorem State.within_completeBlock (s : State) (format : Format) (b : Buffer) :
    (s.within e).completeBlock format b = (s.completeBlock format b).within e := by
  let marked : State := s.setFt (s.ft.modify b.frame fun f => { f with completed := f.completed ++ [⟨b.window, b.lane⟩] })
  have hcount := marked.within_countWindow e b.window fun c => { c with completed := satInc c.completed }
  rw [State.completeBlock, State.completeBlock, ← State.within_selectBlock]
  exact congrArg (fun u : State => (u.setBuffers
    (s.buffers.filter fun x => !x.isKeyed ⟨b.window, b.lane⟩ b.frame)).selectBlock ⟨b.window, b.lane⟩ b.frame
      (samplesOf format b.bytes)) hcount

theorem State.within_keepBuffer (s : State) (format : Format) (b : Buffer) :
    (s.within e).keepBuffer format b = (s.keepBuffer format b).within e := by
  unfold State.keepBuffer
  rw [State.within_ite, State.within_completeBlock]
  rfl

theorem State.within_exhaust (s : State) (src : Source) (g : Nat) (first : Bool) :
    (s.within e).exhaust src g first = (s.exhaust src g first).within e := by
  let marked : State := s.setFt (s.ft.modify g fun f => { f with failed := f.failed ++ [src], exhausted := true })
  have hcount := marked.within_countWindow e src.window fun c => { c with exhausted := satInc c.exhausted }
  cases first with
  | false => exact hcount
  | true =>
    exact State.within_fileOfWindow e hcount src.window fun c =>
      ⟨.poolExhausted, src.window, some g, src.lane, c.exhausted⟩

theorem State.within_assemble (s : State) (format : Format) (src : Source) (g line : Nat) (d : WriteData) :
    (s.within e).assemble format src g line d = (s.assemble format src g line d).within e := by
  have hfind : (s.within e).ft.find g = s.ft.find g := rfl
  have hbuffers : (s.within e).buffers = s.buffers := rfl
  unfold State.assemble
  rw [hfind, hbuffers]
  cases s.ft.find g with
  | none => rfl
  | some f =>
    simp only [State.within_ite, State.within_countWindow]
    cases s.buffers.find? fun b => b.isKeyed src g with
    | none => simp only [State.within_ite, State.within_keepBuffer, State.within_exhaust]; rfl
    | some b => simp only [State.within_keepBuffer]

theorem State.within_strayWrite (s : State) (v slot : Nat) :
    (s.within e).strayWrite v slot = (s.strayWrite v slot).within e := by
  obtain ⟨k, hk⟩ := s.within_window e v
  have hcount := s.within_countWindow e v fun c => { c with stray := satInc c.stray }
  obtain ⟨k', hk'⟩ := (s.countWindow v fun c => { c with stray := satInc c.stray }).within_window e v
  unfold State.strayWrite
  simp only [hk, hcount, hk', State.within_ite]
  rw [State.within_modifyWindow e _ (f := fun x => { x with strayArmed := false }) (fun _ => rfl)]
  rfl

theorem State.within_lateWrite (s : State) (v slot g : Nat) :
    (s.within e).lateWrite v slot g = (s.lateWrite v slot g).within e := by
  obtain ⟨k, hk⟩ := s.within_window e v
  have hcount := s.within_countWindow e v fun c => { c with late := satInc c.late }
  obtain ⟨k', hk'⟩ := (s.countWindow v fun c => { c with late := satInc c.late }).within_window e v
  unfold State.lateWrite
  simp only [hk, hcount, hk', State.within_ite]
  rw [State.within_modifyWindow e _ (f := fun x => { x with lateArmed := false }) (fun _ => rfl)]
  rfl

theorem State.within_openFor (s : State) (g : Nat) : (s.within e).openFor g = (s.openFor g).within e := by
  unfold State.openFor
  rw [State.within_ite, State.within_openFrame]
  rfl

theorem State.within_captureMapped (s : State) (v : Nat) (r : WindowRecord) (p : WindowPlace) (g : Nat) (d : WriteData) :
    (s.within e).captureMapped v r p g d = (s.captureMapped v r p g d).within e := by
  have hopen : (if ((s.within e).ft.find g).isSome then s.within e else (s.within e).openFor g)
      = (if (s.ft.find g).isSome then s else s.openFor g).within e := by
    rw [State.within_ite, State.within_openFor]
    rfl
  unfold State.captureMapped
  simp only [hopen]
  rw [State.within_lateWrite, State.within_assemble]
  exact (State.within_ite e _ _).symm

/-- R15: the reference of a window after a capture write mapped to frame `g`. -/
def Window.refer (g : Nat) (x : Window) : Window := { x with reference := some (max (x.reference.getD 0) g) }

theorem State.captureWrite_eq (s : State) (v : Nat) (r : WindowRecord) (p : WindowPlace) (d : WriteData) :
    let x := s.sess.window v
    let f := mapFrame (x.reference.getD s.ft.reference) r.slots x.anchor p.slot
    s.captureWrite v r p d
      = if f < 0 ∨ (lastFrame : Int) < f then s.strayWrite v p.slot
        else (s.setSess (s.sess.modifyWindow v (Window.refer f.toNat))).captureMapped v r p f.toNat d := by
  intro x f
  refine if_congr Iff.rfl rfl (congrArg (fun change : Window → Window =>
    (s.setSess (s.sess.modifyWindow v change)).captureMapped v r p f.toNat d) ?_)
  funext y
  obtain ⟨_, _, reference⟩ := y
  cases reference <;> simp [Window.refer, f, x]

theorem State.within_captureWrite (s : State) (v : Nat) (r : WindowRecord) (p : WindowPlace) (d : WriteData) :
    (s.within e).captureWrite v r p d = (s.captureWrite v r p d).within e := by
  obtain ⟨k, hk⟩ := s.within_window e v
  have hft : (s.within e).ft = s.ft := rfl
  simp only [State.captureWrite_eq, hk, hft, State.within_ite, State.within_strayWrite]
  rw [State.within_modifyWindow e s (f := Window.refer _) (fun x => rfl), State.within_captureMapped]
  rfl

/-- R11: window `v` of a state anchored so that slot `slot` maps to frame `q`. -/
theorem State.within_anchor (s : State) (v slots slot q : Nat) :
    (s.within e).setSess ((s.within e).sess.anchor v slots slot q) = (s.setSess (s.sess.anchor v slots slot q)).within e :=
  State.within_modifyWindow e s (f := fun x =>
    { x with anchor := (((q : Int) - slot) % slots).toNat, reference := some q, anchored := true }) (fun _ => rfl) v

theorem State.within_resumeSession (s : State) (v slots slot : Nat) :
    (s.within e).resumeSession v slots slot = (s.resumeSession v slots slot).within e := by
  have hunset := e.map_windows (f := Window.unsetReference) (fun x => by
    obtain ⟨record⟩ := x
    cases record <;> rfl) s.sess.windows
  have hanchor := e.modify_windows (f := fun x => { x with
      anchor := (((s.ft.nextNumber : Int) - slot) % slots).toNat, reference := some s.ft.nextNumber, anchored := true })
    (fun _ => rfl) (s.sess.windows.map Window.unsetReference) v
  rw [← hunset] at hanchor
  exact congrArg (fun ws => ({ s.resumeSession v slots slot with
    path := e.path, ports := e.ports
    sess := { s.sess with
      windows := ws, state := .running, timer := some s.sess.stallTime, resume := some s.ft.nextNumber } } : State)) hanchor

/-- The session's part of a window write neither reads nor changes the path, the ports and the mirror bases. -/
theorem State.within_windowWrite (s : State) (v : Nat) (r : WindowRecord) (p : WindowPlace) (d : WriteData) :
    (s.within e).windowWrite v r p d = (s.windowWrite v r p d).within e := by
  obtain ⟨k, hk⟩ := s.within_window e v
  have hstate : (s.within e).sess.state = s.sess.state := rfl
  have htracks : (s.within e).tracks = s.tracks := rfl
  have hft : (s.within e).ft = s.ft := rfl
  unfold State.windowWrite
  simp only [hk, hstate, htracks, hft]
  cases s.sess.state with
  | idle => rfl
  | draining => exact s.within_countWindow e v _
  | armed => simp only [State.within_ite, State.within_captureWrite]
  | running =>
    simp only [State.within_ite, ← State.within_captureWrite, ← State.within_captureMapped, ← State.within_anchor]
    rfl
  | stalled =>
    simp only [State.within_ite, State.within_captureMapped, State.within_resumeSession, State.within_strayWrite]

end Sys2Proof.Machine
end

section
/-! What the session's part of a window write keeps: closes and opens keep the bearing of every window, and no part of
it changes a window record. -/

namespace Sys2Proof.Machine
open Sys2Proof.Spec

/-! ### What a close keeps of the windows -/

/-- What the mapping of R15 reads of a window, and its record. -/
def Window.bearing (x : Window) : Option WindowRecord × Nat × Option Nat × Bool :=
  (x.record, x.anchor, x.reference, x.anchored)

def State.bearings (s : State) : List (Option WindowRecord × Nat × Option Nat × Bool) :=
  s.sess.windows.map Window.bearing

theorem zipIdx_map_map_of_blind {β : Type} {f : Window × Nat → Window} {g : Window → β} (h : ∀ x i, g (f (x, i)) = g x)
    (ws : List Window) : (ws.zipIdx.map f).map g = ws.map g := by
  refine List.ext_getElem? fun i => ?_
  simp only [List.getElem?_map, List.getElem?_zipIdx]
  cases ws[i]? with
  | none => rfl
  | some x => simp [h]

theorem Window.close_bearing (x : Window) (limit : Nat) (heard : Bool) : (x.close limit heard).bearing = x.bearing := by
  unfold Window.close
  simp only
  split
  · rfl
  · split <;> rfl

theorem closeWindows_bearing (tracks : List Track) (f : Frame) (ws : List Window) :
    (closeWindows tracks f 0 ws).map Window.bearing = ws.map Window.bearing := by
  rw [closeWindows_eq]
  refine zipIdx_map_map_of_blind (fun x i => ?_) ws
  cases x.record with
  | none => rfl
  | some r =>
    simp only
    split
    · exact x.close_bearing _ _
    · rfl

theorem State.closeFrame_windows (s : State) (f : Frame) (cause : Cause) (empty : Bool) :
    (s.closeFrame f cause empty).sess.windows
      = closeWindows s.tracks f 0 (s.afterLeaving f.number).sess.windows := by
  rw [State.closeFrame_eq]
  simp only [State.countClose, State.produce_eq, State.setFt_sess, State.evaluateClose_eq]
  rfl

theorem State.closeFrame_bearings (s : State) (f : Frame) (cause : Cause) (empty : Bool) :
    (s.closeFrame f cause empty).bearings = s.bearings := by
  rw [State.bearings, State.closeFrame_windows, closeWindows_bearing]
  exact zipIdx_map_map_of_blind (fun _ _ => rfl) s.sess.windows

section keeps

variable {β : Type} {φ : State → β}
  (hclose : ∀ (s : State) (f : Frame) (cause : Cause) (empty : Bool), φ (s.closeFrame f cause empty) = φ s)
include hclose

/-- What every close of a frame keeps, the close of due frames keeps. -/
theorem State.closeDue_keeps (s : State) : φ s.closeDue = φ s := by
  have hfuel : ∀ (fuel : Nat) (u : State), φ (State.closeComplete fuel u) = φ u := by
    intro fuel
    induction fuel with
    | zero => exact fun _ => rfl
    | succ fuel ih =>
      intro u
      rw [State.closeComplete]
      split
      · rw [ih, hclose]
      · rfl
  exact hfuel _ s

theorem State.closeBelow_keeps (s : State) (limit : Nat) (cause : Cause) : φ (s.closeBelow limit cause) = φ s := by
  have hone : ∀ (u : State) (g : Nat), φ (u.closeOne g cause) = φ u := fun u g => by
    cases h : u.ft.find g with
    | some f => rw [State.closeOne_held h, hclose]
    | none => rw [State.closeOne_empty h, hclose]
  have hrun : ∀ (count g : Nat) (u : State), φ (State.closeRun cause count g u) = φ u := by
    intro count
    induction count with
    | zero => exact fun _ _ => rfl
    | succ count ih => exact fun g u => (ih (g + 1) (u.closeOne g cause)).trans (hone u g)
  exact hrun _ _ s

/-- What every close of a frame and the insertion of one keep, an open keeps. -/
theorem State.openFrame_keeps (hnew : ∀ (s : State) (g : Nat), φ (s.insertNew g) = φ s) (s : State) (g : Nat) :
    φ (s.openFrame g) = φ s := by
  rw [State.openFrame, hnew, State.closeDue_keeps hclose, State.closeBelow_keeps hclose]

end keeps

theorem State.openFrame_bearings (s : State) (g : Nat) : (s.openFrame g).bearings = s.bearings :=
  State.openFrame_keeps State.closeFrame_bearings (fun u g => by
    simp only [State.bearings, State.insertNew, State.setSess_sess, List.map_map]
    rfl) s g

theorem State.closeDue_bearings (s : State) : s.closeDue.bearings = s.bearings :=
  State.closeDue_keeps State.closeFrame_bearings s

/-! ### What keeps the window records -/

def State.records (s : State) : List (Option WindowRecord) := s.sess.windows.map Window.record

theorem State.records_of_bearings {s t : State} (h : t.bearings = s.bearings) : t.records = s.records := by
  have hfst : ∀ u : State, u.records = u.bearings.map Prod.fst := fun u => by
    simp only [State.records, State.bearings, List.map_map]
    rfl
  rw [hfst, hfst, h]

theorem map_modify_of_blind {β : Type} {f : Window → Window} {g : Window → β} (h : ∀ x, g (f x) = g x)
    (ws : List Window) (v : Nat) : (ws.modify v f).map g = ws.map g := by
  refine List.ext_getElem? fun i => ?_
  simp only [List.getElem?_map, List.getElem?_modify]
  cases ws[i]? with
  | none => rfl
  | some x => by_cases hv : v = i <;> simp [hv, h]

theorem State.ite_records {c : Prop} [Decidable c] {a b : State} {l : List (Option WindowRecord)} (ha : a.records = l)
    (hb : b.records = l) : (if c then a else b).records = l := by
  split
  · exact ha
  · exact hb

/-- A change of one window that keeps its record keeps the records. -/
theorem State.records_of_modify {s t : State} {f : Window → Window} {v : Nat}
    (h : t.sess.windows = s.sess.windows.modify v f) (hf : ∀ x, (f x).record = x.record) : t.records = s.records := by
  rw [State.records, h]
  exact map_modify_of_blind hf s.sess.windows v

theorem State.countWindow_records (s : State) (v : Nat) (f : WindowCounters → WindowCounters) :
    (s.countWindow v f).records = s.records := State.records_of_modify rfl fun _ => rfl

theorem State.codeWinner_records (s : State) (g t : Nat) (samples : List Int) (crc : BitVec 32) :
    (s.codeWinner g t samples crc).records = s.records := State.ite_records (State.ite_records rfl rfl) rfl

theorem State.selectBlock_records (s : State) (src : Source) (g : Nat) (samples : List Int) :
    (s.selectBlock src g samples).records = s.records := by
  unfold State.selectBlock
  split
  · rfl
  · split
    · exact State.ite_records (State.ite_records rfl rfl) rfl
    · exact (State.records_of_bearings (State.closeDue_bearings _)).trans (State.codeWinner_records _ g _ samples _)

theorem State.keepBuffer_records (s : State) (format : Format) (b : Buffer) :
    (s.keepBuffer format b).records = s.records :=
  State.ite_records ((State.selectBlock_records _ _ _ _).trans (State.records_of_modify rfl fun _ => rfl)) rfl

theorem State.assemble_records (s : State) (format : Format) (src : Source) (g line : Nat) (d : WriteData) :
    (s.assemble format src g line d).records = s.records := by
  unfold State.assemble
  split
  · rfl
  · refine State.ite_records (s.countWindow_records _ _) (State.ite_records rfl ?_)
    split
    · exact s.keepBuffer_records format _
    · exact State.ite_records (s.keepBuffer_records format _) (State.ite_records
        (State.records_of_modify rfl fun _ => rfl) (State.records_of_modify rfl fun _ => rfl))

theorem State.strayWrite_records (s : State) (v slot : Nat) : (s.strayWrite v slot).records = s.records :=
  State.ite_records ((State.records_of_modify (s := s.countWindow v fun c => { c with stray := satInc c.stray })
    (f := fun x => { x with strayArmed := false }) (v := v) rfl fun _ => rfl).trans (s.countWindow_records v _))
    (s.countWindow_records v _)

theorem State.lateWrite_records (s : State) (v slot g : Nat) : (s.lateWrite v slot g).records = s.records :=
  State.ite_records ((State.records_of_modify (s := s.countWindow v fun c => { c with late := satInc c.late })
    (f := fun x => { x with lateArmed := false }) (v := v) rfl fun _ => rfl).trans (s.countWindow_records v _))
    (s.countWindow_records v _)

theorem State.openFor_records (s : State) (g : Nat) : (s.openFor g).records = s.records :=
  State.ite_records (State.records_of_bearings (s.openFrame_bearings g))
    (State.records_of_bearings (s.openFrame_bearings g))

theorem State.captureMapped_records (s : State) (v : Nat) (r : WindowRecord) (p : WindowPlace) (g : Nat)
    (d : WriteData) : (s.captureMapped v r p g d).records = s.records :=
  State.ite_records (s.lateWrite_records v p.slot g)
    ((State.assemble_records _ _ _ _ _ _).trans (State.ite_records rfl (s.openFor_records g)))

theorem State.captureWrite_records (s : State) (v : Nat) (r : WindowRecord) (p : WindowPlace) (d : WriteData) :
    (s.captureWrite v r p d).records = s.records :=
  State.ite_records (s.strayWrite_records v p.slot)
    ((State.captureMapped_records _ v r p _ d).trans (State.records_of_modify rfl fun _ => rfl))

theorem State.resumeSession_records (s : State) (v slots slot : Nat) :
    (s.resumeSession v slots slot).records = s.records := by
  have hunset : (s.sess.windows.map Window.unsetReference).map Window.record = s.sess.windows.map Window.record := by
    rw [List.map_map]
    refine List.map_congr_left fun x _ => ?_
    rw [Function.comp_apply, Window.unsetReference]
    split <;> rfl
  exact (map_modify_of_blind (f := fun x => { x with
    anchor := (((s.ft.nextNumber : Int) - slot) % slots).toNat, reference := some s.ft.nextNumber, anchored := true })
    (fun _ => rfl) (s.sess.windows.map Window.unsetReference) v).trans hunset

theorem State.windowWrite_records (s : State) (v : Nat) (r : WindowRecord) (p : WindowPlace) (d : WriteData) :
    (s.windowWrite v r p d).records = s.records := by
  unfold State.windowWrite
  split
  · rfl
  · exact s.countWindow_records v _
  · exact State.ite_records (s.captureWrite_records v r p d) rfl
  · refine State.ite_records (State.ite_records (State.captureWrite_records _ v r p d) rfl)
      (State.ite_records ((State.captureMapped_records _ v r p _ d).trans ?_) ?_)
    · exact State.records_of_modify rfl fun _ => rfl
    · exact State.records_of_modify rfl fun _ => rfl
  · exact State.ite_records (State.ite_records (s.strayWrite_records v p.slot) rfl)
      (State.ite_records ((State.captureMapped_records _ v r p _ d).trans (s.resumeSession_records v r.slots p.slot))
        (s.resumeSession_records v r.slots p.slot))

end Sys2Proof.Machine
end

section
/-! A window write: how it reaches its window's owner, and the copy of a mirrored window. -/

namespace Sys2Proof.Machine
open Sys2Proof.Spec

/-! ### The row of a window write (R134) -/

/-- The next grant takes the write `d`, which window `w` alone holds. -/
structure TakesWriteOf (s : State) (r : Passing) (d : WriteData) (w : Nat) : Prop where
  settled : Settled s
  active : s.straps.passOnly = false
  head : ∃ rest, s.path.forward = r :: rest
  granted : GrantsPassing s.path
  write : r.write = some d
  unguarded : s.aw.guards r.addr = none
  command : ¬ InCommandSlot s r.addr
  response : ¬ InResponseSlot s r.addr
  alone : s.sess.windowsAt r.addr = [w]

theorem exec_windowWrite {s : State} {r : Passing} {d : WriteData} {w : Nat} (h : TakesWriteOf s r d w) :
    exec .passingRequestTake s = .next ((forwarded s r).windowOwner r.addr d w) := by
  obtain ⟨rest, hforward⟩ := h.head
  have hwindows : (forwarded s r).sess.windowsAt r.addr = [w] := h.alone
  have hcommand : ¬ (forwarded s r).straps.commandSlot.contains r.addr = true := by
    rw [Straps.commandSlot_contains]
    exact h.command
  rw [exec_passingRequestTake h.settled hforward (.inr h.granted),
    State.takeHead_of_write h.active h.write h.response h.unguarded, State.ownWrite, hwindows, if_neg hcommand]
  rfl

/-- The window table decides by extents alone which windows hold a line. -/
theorem windowsAt_congr {c c' : SessionControl} (hrecord : c'.record = c.record)
    (hlength : c'.windows.length = c.windows.length)
    (h : ∀ v n, ((c'.window v).record.map fun r => r.region n) = (c.window v).record.map fun r => r.region n)
    (addr : Nat) : c'.windowsAt addr = c.windowsAt addr := by
  have hsize : c'.blockSize = c.blockSize := by rw [SessionControl.blockSize, SessionControl.blockSize, hrecord]
  unfold SessionControl.windowsAt
  rw [hlength, hsize]
  refine List.filter_congr fun v _ => ?_
  have hv := h v c.blockSize
  cases hc : (c.window v).record with
  | none =>
    rw [hc, Option.map_none, Option.map_eq_none_iff] at hv
    simp only [hv]
  | some r =>
    rw [hc, Option.map_some, Option.map_eq_some_iff] at hv
    obtain ⟨r', hr', hregion⟩ := hv
    simp only [hr', hregion]

/-- The session's part of a write to window `w` (R9). -/
def State.sessionWrite (s : State) (addr : Nat) (d : WriteData) (w : Nat) (r : WindowRecord) : State :=
  if d.mask = 0 then s else s.windowWrite w r (r.place s.sess.blockSize addr) d

theorem State.windowOwner_of_quiet {s : State} {w : Nat} {rec : WindowRecord} (hrecord : (s.sess.window w).record = some rec)
    {addr : Nat} (hlost : s.path.mirrorRecords w rec addr s.ft.newest = []) (d : WriteData) :
    s.windowOwner addr d w = (s.setPath (s.path.mirror w rec addr d s.ft.newest)).sessionWrite addr d w rec := by
  unfold State.windowOwner
  simp only [hrecord, hlost]
  rfl

theorem State.windowOwner_of_lost {s : State} {w : Nat} {rec : WindowRecord} (hrecord : (s.sess.window w).record = some rec)
    {addr : Nat} {loss : Record} (hlost : s.path.mirrorRecords w rec addr s.ft.newest = [loss]) (d : WriteData) :
    s.windowOwner addr d w
      = let counted := (s.setPath (s.path.mirror w rec addr d s.ft.newest)).setFreeCount (s.freeCount + 1)
        if Config.freeOrder s.freeCount then (counted.file loss).sessionWrite addr d w rec
        else (counted.sessionWrite addr d w rec).file loss := by
  unfold State.windowOwner
  simp only [hrecord, hlost]
  rfl

theorem State.within_sessionWrite (e : Surroundings) (s : State) (addr : Nat) (d : WriteData) (w : Nat) (r : WindowRecord) :
    (s.within e).sessionWrite addr d w r = (s.sessionWrite addr d w r).within e := by
  rw [State.sessionWrite, State.sessionWrite, State.within_ite, ← State.within_windowWrite]
  rfl

theorem State.sessionWrite_records (s : State) (addr : Nat) (d : WriteData) (w : Nat) (r : WindowRecord) :
    (s.sessionWrite addr d w r).records = s.records :=
  State.ite_records rfl (s.windowWrite_records _ _ _ _)

/-- A state stands in its own surroundings. -/
theorem State.within_self (s : State) : s.within ⟨s.path, s.ports, s.sess.windows.length, id⟩ = s := by
  have hwindows : Surroundings.windows ⟨s.path, s.ports, s.sess.windows.length, id⟩ s.sess.windows = s.sess.windows :=
    List.modify_eq_self le_rfl
  rw [State.within, hwindows]

theorem State.sessionWrite_path (s : State) (addr : Nat) (d : WriteData) (w : Nat) (r : WindowRecord) :
    (s.sessionWrite addr d w r).path = s.path ∧ (s.sessionWrite addr d w r).ports = s.ports := by
  have h := s.within_sessionWrite ⟨s.path, s.ports, s.sess.windows.length, id⟩ addr d w r
  rw [s.within_self] at h
  rw [h]
  exact ⟨rfl, rfl⟩

/-- Only the form and the places of a window are read by the session's part, not its mirror base. -/
theorem State.sessionWrite_remirror (s : State) (addr : Nat) (d : WriteData) (w : Nat) (r : WindowRecord)
    (m : Option Nat) : s.sessionWrite addr d w { r with mirror := m } = s.sessionWrite addr d w r := rfl

/-! ### A mirrored window and the same window without its mirror -/

theorem SessionControl.getElem?_of_window {c : SessionControl} {w : Nat} {rec : WindowRecord}
    (h : (c.window w).record = some rec) : ∃ x, c.windows[w]? = some x ∧ x.record = some rec := by
  rw [SessionControl.window, List.getD_eq_getElem?_getD] at h
  cases hx : c.windows[w]? with
  | none => simp [hx, Window.unloaded] at h
  | some x => exact ⟨x, rfl, by simpa [hx] using h⟩

/-- The window table with the record `rec` and mirror base `m` at window `w`. -/
def SessionControl.mirroredAt (c : SessionControl) (w : Nat) (rec : WindowRecord) (m : Option Nat) : SessionControl :=
  { c with windows := c.windows.modify w fun x => { x with record := some { rec with mirror := m } } }

theorem SessionControl.mirroredAt_window {c : SessionControl} {w : Nat} {rec : WindowRecord}
    (h : (c.window w).record = some rec) (m : Option Nat) (v : Nat) :
    ((c.mirroredAt w rec m).window v).record
      = if v = w then some { rec with mirror := m } else (c.window v).record := by
  obtain ⟨x, hx, -⟩ := SessionControl.getElem?_of_window h
  simp only [SessionControl.mirroredAt, SessionControl.window, List.getD_eq_getElem?_getD, List.getElem?_modify]
  by_cases hv : v = w
  · subst hv
    simp [hx]
  · simp [hv, Ne.symm hv]

/-- The session's part of a write to a mirrored window is that of the same write with the mirror absent. -/
theorem State.sessionWrite_of_unmirrored {s : State} {w : Nat} {rec : WindowRecord} {mirror : Nat}
    (hrecord : (s.sess.window w).record = some rec) (hmirror : rec.mirror = some mirror) (p : PathUnit) (addr : Nat)
    (d : WriteData) :
    let t := ({ s with sess := s.sess.mirroredAt w rec none } : State).sessionWrite addr d w { rec with mirror := none }
    ({ s with path := p } : State).sessionWrite addr d w rec
      = { t with path := p, sess := t.sess.mirroredAt w rec (some mirror) } := by
  intro t
  let e : Surroundings := ⟨p, s.ports, w, fun _ => some mirror⟩
  let plain : State := { s with sess := s.sess.mirroredAt w rec none }
  obtain ⟨x, hx, hxrecord⟩ := SessionControl.getElem?_of_window hrecord
  have hwhole : ({ rec with mirror := some mirror } : WindowRecord) = rec := by rw [← hmirror]
  have hback : e.windows (s.sess.mirroredAt w rec none).windows = s.sess.windows := by
    refine List.ext_getElem? fun i => ?_
    simp only [Surroundings.windows, SessionControl.mirroredAt, List.getElem?_modify]
    by_cases hi : w = i
    · subst hi
      simp [e, hx, Window.remirror, hwhole, ← hxrecord]
    · simp [e, hi]
  have hplain : plain.within e = { s with path := p } := by
    rw [State.within, show e.windows plain.sess.windows = s.sess.windows from hback]
    rfl
  have hports : e.ports = t.ports := (plain.sessionWrite_path addr d w _).2.symm
  have hwindows : e.windows t.sess.windows = (t.sess.mirroredAt w rec (some mirror)).windows := by
    have hrecords : t.records = plain.records := plain.sessionWrite_records addr d w _
    have hrecord' : plain.records[w]? = some (some { rec with mirror := none }) := by
      simp [State.records, plain, SessionControl.mirroredAt, hx]
    rw [← hrecords, State.records, List.getElem?_map, Option.map_eq_some_iff] at hrecord'
    obtain ⟨y, hy, hyrecord⟩ := hrecord'
    rw [Surroundings.windows, SessionControl.mirroredAt, modify_eq_set_of_getElem? _ hy, modify_eq_set_of_getElem? _ hy,
      Window.remirror, hyrecord]
    rfl
  calc ({ s with path := p } : State).sessionWrite addr d w rec
      = (plain.within e).sessionWrite addr d w rec := by rw [hplain]
    _ = t.within e := plain.within_sessionWrite e addr d w rec
    _ = { t with path := p, sess := t.sess.mirroredAt w rec (some mirror) } := by
      rw [State.within, hwindows, hports]
      rfl

/-! ### The copy and the loss (R143, R144) -/

theorem PathUnit.mirror_of_room {u : PathUnit} (h : u.queues.mirror.length < 64) {rec : WindowRecord} {b : Nat}
    (hmirror : rec.mirror = some b) (w addr : Nat) (d : WriteData) (closed : Option Nat) :
    u.mirror w rec addr d closed = enqueued u .mirror (b + (addr - rec.base)) d .mirrorCopy
      ∧ u.mirrorRecords w rec addr closed = [] := by
  have hroom : u.hasRoom .mirror = true := (u.hasRoom_iff .mirror).2 h
  rw [PathUnit.mirror, PathUnit.mirrorRecords, hmirror]
  exact ⟨if_pos hroom, if_pos (by rw [hroom, Bool.true_or])⟩

theorem PathUnit.mirror_of_full {u : PathUnit} (h : 64 ≤ u.queues.mirror.length) {rec : WindowRecord} {b : Nat}
    (hmirror : rec.mirror = some b) (w addr : Nat) (d : WriteData) (closed : Option Nat) :
    u.mirror w rec addr d closed = u.countMirrorLoss w closed
      ∧ u.mirrorRecords w rec addr closed
        = if ⟨w, closed⟩ ∈ u.mirrorNotes then []
          else [⟨.mirrorLoss, w, closed, (addr - rec.base) / 64, satInc (u.mirrorLoss.getD w 0)⟩] := by
  have hroom : ¬ u.hasRoom .mirror = true := by
    rw [PathUnit.hasRoom_iff]
    exact Nat.not_lt.2 h
  have hnoted : (u.hasRoom .mirror || noted u.mirrorNotes w closed) = true ↔ ⟨w, closed⟩ ∈ u.mirrorNotes := by
    rw [Bool.or_eq_true, or_iff_right hroom, noted_iff]
  rw [PathUnit.mirror, PathUnit.mirrorRecords, hmirror]
  exact ⟨if_neg hroom, if_congr hnoted rfl rfl⟩

/-- In IDLE, and with no byte enabled, the session does nothing. -/
theorem State.sessionWrite_of_still {s : State} {d : WriteData} (h : s.sess.state = .idle ∨ d.mask = 0) (addr w : Nat)
    (r : WindowRecord) : s.sessionWrite addr d w r = s := by
  rw [State.sessionWrite]
  by_cases hmask : d.mask = 0
  · rw [if_pos hmask]
  · rw [if_neg hmask, State.windowWrite, h.resolve_right hmask]

theorem exec_unmirrored {s : State} {r : Passing} {d : WriteData} {w : Nat} (h : TakesWriteOf s r d w)
    {rec : WindowRecord} (hrecord : (s.sess.window w).record = some rec) (hmirror : rec.mirror = none) :
    exec .passingRequestTake s = .next ((forwarded s r).sessionWrite r.addr d w rec) := by
  have hlost : (forwarded s r).path.mirrorRecords w rec r.addr (forwarded s r).ft.newest = [] := by
    rw [PathUnit.mirrorRecords, hmirror]
  have hpath : (forwarded s r).path.mirror w rec r.addr d (forwarded s r).ft.newest = (forwarded s r).path := by
    rw [PathUnit.mirror, hmirror]
  rw [exec_windowWrite h, State.windowOwner_of_quiet (s := forwarded s r) hrecord hlost, hpath]
  rfl

/-- The write of a state whose window has no mirror, whatever has been recorded. -/
theorem TakesWriteOf.unmirrored {s : State} {r : Passing} {d : WriteData} {w : Nat} (h : TakesWriteOf s r d w)
    {rec : WindowRecord} (hrecord : (s.sess.window w).record = some rec) (n : Nat) (rw : ReportWriter) :
    TakesWriteOf { s with sess := s.sess.mirroredAt w rec none, freeCount := n, rw := rw } r d w where
  settled := h.settled
  active := h.active
  head := h.head
  granted := h.granted
  write := h.write
  unguarded := h.unguarded
  command := h.command
  response := h.response
  alone := by
    refine (windowsAt_congr (c := s.sess) (c' := s.sess.mirroredAt w rec none) rfl (List.length_modify ..) (fun v n => ?_) r.addr).trans h.alone
    rw [SessionControl.mirroredAt_window hrecord]
    split
    · next hv => subst hv; rw [hrecord]; rfl
    · rfl

/-- Settles O39: the session's part of the write neither reads nor changes the path and the mirror base, so the write
to the mirrored window is the copy or its loss, and the write with the mirror absent. -/
theorem mirrorCopiesFollowTheWindow : Obligations.MirrorCopiesFollowTheWindow := by
  unfold Obligations.MirrorCopiesFollowTheWindow
  intro s r rest d w rec mirror hsettled hactive hforward hgrant hwrite hguard hcommand hresponse hwindows hrecord
    hmirror u copied counted recorded loss mirroredAt plain
  have hs : TakesWriteOf s r d w :=
    ⟨hsettled, hactive, ⟨rest, hforward⟩, hgrant, hwrite, hguard, hcommand, hresponse, hwindows⟩
  have hsame : ∀ (n : Nat) (x : ReportWriter),
      exec .passingRequestTake { plain with freeCount := n, rw := x }
        = .next ((forwarded { plain with freeCount := n, rw := x } r).sessionWrite r.addr d w
            { rec with mirror := none }) := fun n x =>
    exec_unmirrored (hs.unmirrored hrecord n x)
      ((SessionControl.mirroredAt_window hrecord none w).trans (if_pos rfl)) rfl
  have hsession : ∀ (n : Nat) (x : ReportWriter) (p : PathUnit),
      let t := (forwarded { plain with freeCount := n, rw := x } r).sessionWrite r.addr d w { rec with mirror := none }
      ({ u with freeCount := n, rw := x, path := p } : State).sessionWrite r.addr d w rec
          = { t with path := p, sess := mirroredAt (some mirror) t.sess } ∧ t.path = u.path := fun n x p =>
    ⟨State.sessionWrite_of_unmirrored (s := { u with freeCount := n, rw := x }) hrecord hmirror p r.addr d,
      (State.sessionWrite_path _ _ _ _ _).1⟩
  have hroom : s.path.queues.mirror.length < 64 →
      exec .passingRequestTake s = .next (({ u with path := copied u.path } : State).sessionWrite r.addr d w rec) := by
    intro h
    obtain ⟨hpath, hlost⟩ := PathUnit.mirror_of_room (u := u.path) h hmirror w r.addr d u.ft.newest
    rw [exec_windowWrite hs, State.windowOwner_of_quiet (s := forwarded s r) hrecord hlost, hpath]
    rfl
  have hrecorded : 64 ≤ s.path.queues.mirror.length → recorded →
      exec .passingRequestTake s = .next (({ u with path := counted u.path } : State).sessionWrite r.addr d w rec) := by
    intro h hr
    obtain ⟨hpath, hlost⟩ := PathUnit.mirror_of_full (u := u.path) h hmirror w r.addr d u.ft.newest
    rw [if_pos (show ⟨w, u.ft.newest⟩ ∈ u.path.mirrorNotes from hr)] at hlost
    rw [exec_windowWrite hs, State.windowOwner_of_quiet (s := forwarded s r) hrecord hlost, hpath]
    rfl
  have hlosing : 64 ≤ s.path.queues.mirror.length → ¬ recorded →
      let before : State := { u with path := counted u.path, freeCount := s.freeCount + 1 }
      exec .passingRequestTake s = .next
        (if Config.freeOrder s.freeCount then
          ({ before with rw := filed s.rw loss } : State).sessionWrite r.addr d w rec
        else (before.sessionWrite r.addr d w rec).file loss) := by
    intro h hr before
    obtain ⟨hpath, hlost⟩ := PathUnit.mirror_of_full (u := u.path) h hmirror w r.addr d u.ft.newest
    rw [if_neg (show ¬ ⟨w, u.ft.newest⟩ ∈ u.path.mirrorNotes from hr)] at hlost
    rw [exec_windowWrite hs, State.windowOwner_of_lost (s := forwarded s r) hrecord hlost, hpath]
    simp only [State.file_eq_filed]
    rfl
  refine ⟨fun hstill => ?_, fun h => ?_, fun h hr => ?_, fun h hr => ?_⟩
  · by_cases h : s.path.queues.mirror.length < 64
    · rw [hroom h, State.sessionWrite_of_still (s := { u with path := copied u.path }) hstill, if_pos h]
    · rw [if_neg h]
      by_cases hr : recorded
      · rw [hrecorded (Nat.le_of_not_lt h) hr, State.sessionWrite_of_still (s := { u with path := counted u.path }) hstill,
          if_pos hr]
      · have hfirst := State.sessionWrite_of_still
          (s := { u with path := counted u.path, rw := filed s.rw loss, freeCount := s.freeCount + 1 }) hstill r.addr w rec
        have hlast := State.sessionWrite_of_still
          (s := { u with path := counted u.path, freeCount := s.freeCount + 1 }) hstill r.addr w rec
        rw [hlosing (Nat.le_of_not_lt h) hr, if_neg hr, hfirst, hlast, State.file_eq_filed]
        exact congrArg _ (ite_self _)
  · obtain ⟨hwrites, hpath⟩ := hsession s.freeCount s.rw (copied u.path)
    refine ⟨_, hsame s.freeCount s.rw, ?_⟩
    rw [hroom h, hpath, ← hwrites]
    rfl
  · obtain ⟨hwrites, hpath⟩ := hsession s.freeCount s.rw (counted u.path)
    refine ⟨_, hsame s.freeCount s.rw, ?_⟩
    rw [hrecorded h hr, hpath, ← hwrites]
    rfl
  · intro first
    by_cases hfirst : first = true
    · obtain ⟨hwrites, hpath⟩ := hsession (s.freeCount + 1) (filed s.rw loss) (counted u.path)
      refine ⟨_, (by rw [if_pos hfirst]; exact hsame (s.freeCount + 1) (filed s.rw loss)), ?_⟩
      rw [hlosing h hr, if_pos hfirst, if_pos hfirst, hpath]
      exact congrArg _ hwrites
    · obtain ⟨hwrites, hpath⟩ := hsession (s.freeCount + 1) s.rw (counted u.path)
      refine ⟨_, (by rw [if_neg hfirst]; exact hsame (s.freeCount + 1) s.rw), ?_⟩
      rw [hlosing h hr, if_neg hfirst, if_neg hfirst, State.file_eq_filed, hpath]
      exact congrArg _ (congrArg (fun t : State => ({ t with rw := filed t.rw loss } : State)) hwrites)

end Sys2Proof.Machine
end

section
/-! A window write in each session state: the timer, anchoring and the resume of a stalled session. -/

namespace Sys2Proof.Machine
open Sys2Proof.Spec

/-! ### Where the write lies and whether a track names its lane -/

/-- R2: the place of a line from its address. -/
theorem WindowRecord.place_eq {rec : WindowRecord} {n addr slot lane line : Nat} (hsize : n % 64 = 0)
    (haddr : addr = rec.base + (slot * rec.lanes + lane) * (4 * n) + 64 * line) (hlane : lane < rec.lanes)
    (hline : line < n / 16) : rec.place n addr = ⟨slot, lane, line⟩ := by
  have hwithin : 64 * line < 4 * n := by omega
  have hoffset : addr - rec.base = 64 * line + (4 * n) * (slot * rec.lanes + lane) := by
    rw [haddr, Nat.mul_comm (4 * n)]
    omega
  have hblock : (addr - rec.base) / (4 * n) = slot * rec.lanes + lane := by
    rw [hoffset, Nat.add_mul_div_left _ _ (by omega), Nat.div_eq_of_lt hwithin, Nat.zero_add]
  have hrest : (addr - rec.base) % (4 * n) = 64 * line := by
    rw [hoffset, Nat.add_mul_mod_self_left, Nat.mod_eq_of_lt hwithin]
  have hslot : (slot * rec.lanes + lane) / rec.lanes = slot := by
    rw [Nat.add_comm, Nat.add_mul_div_right _ _ (by omega), Nat.div_eq_of_lt hlane, Nat.zero_add]
  have hmod : (slot * rec.lanes + lane) % rec.lanes = lane := by
    rw [Nat.add_comm, Nat.add_mul_mod_self_right, Nat.mod_eq_of_lt hlane]
  rw [WindowRecord.place]
  simp only [hblock, hrest, hslot, hmod]
  rw [Nat.mul_div_cancel_left line (by omega)]

theorem isSourceLane_iff (tracks : List Track) (src : Source) :
    isSourceLane tracks src = true ↔ ∃ x ∈ tracks, Names x src := by
  have hat : ∀ (t : Nat) (x : Track), tracks[t]? = some x →
      ((if x.record.enabled then
          if x.record.primary == some src then some (t, Role.primary)
          else if x.record.alternate == some src then some (t, Role.alternate)
          else none
        else none).isSome = true ↔ Names x src) := by
    intro t x _
    by_cases hon : x.record.enabled = true
    · by_cases hp : x.record.primary = some src
      · simp [Names, hon, hp]
      · by_cases ha : x.record.alternate = some src <;> simp [Names, hon, hp, ha]
    · simp [Names, hon]
  rw [isSourceLane, sourceOf, List.findSome?_isSome_iff]
  constructor
  · rintro ⟨t, -, ht⟩
    cases hx : tracks[t]? with
    | none => simp [hx] at ht
    | some x => exact ⟨x, List.mem_of_getElem? hx, (hat t x hx).1 (by simpa only [hx] using ht)⟩
  · rintro ⟨x, hmem, hnames⟩
    obtain ⟨t, ht, hx⟩ := List.getElem_of_mem hmem
    have hx' : tracks[t]? = some x := by rw [List.getElem?_eq_getElem ht, hx]
    exact ⟨t, List.mem_range.2 ht, by simpa only [hx'] using (hat t x hx').2 hnames⟩

theorem takesWriteOf_of_takesWindowWrite {s : State} {r : Passing} {d : WriteData} {w : Nat} {rec : WindowRecord}
    {slot lane line : Nat} (h : TakesWindowWrite s r d w rec slot lane line) : TakesWriteOf s r d w where
  settled := h.settled
  active := h.active
  head := List.head?_eq_some_iff.1 h.head
  granted := h.granted
  write := h.write
  unguarded := h.unguarded
  command := h.apart.1
  response := h.apart.2
  alone := h.alone

/-- The row of a window write without a mirror is the session's part of it. -/
theorem exec_takesWindowWrite {s : State} {r : Passing} {d : WriteData} {w : Nat} {rec : WindowRecord}
    {slot lane line : Nat} (h : TakesWindowWrite s r d w rec slot lane line) (hmirror : rec.mirror = none) :
    exec .passingRequestTake s = .next ((forwarded s r).windowWrite w rec ⟨slot, lane, line⟩ d) := by
  have hplace := WindowRecord.place_eq h.block h.place h.within.2.1 h.within.2.2
  rw [exec_unmirrored (takesWriteOf_of_takesWindowWrite h) h.record hmirror, State.sessionWrite, if_neg h.enabled,
    show (forwarded s r).sess.blockSize = s.sess.blockSize from rfl, hplace]

theorem State.window_record_of_records {s s' : State} (h : s'.records = s.records) (v : Nat) :
    (s'.sess.window v).record = (s.sess.window v).record := by
  have hlookup : ∀ u : State, (u.sess.window v).record = u.records.getD v none := fun u => by
    rw [State.records, SessionControl.window, List.getD_eq_getElem?_getD, List.getD_eq_getElem?_getD, List.getElem?_map]
    cases u.sess.windows[v]? <;> rfl
  rw [hlookup, hlookup, h]

theorem State.windowsAt_of_records {s s' : State} (hrecord : s'.sess.record = s.sess.record)
    (hrecords : s'.records = s.records) (addr : Nat) : s'.sess.windowsAt addr = s.sess.windowsAt addr := by
  have hlength : s'.sess.windows.length = s.sess.windows.length := by
    simpa [State.records] using congrArg List.length hrecords
  refine windowsAt_congr hrecord hlength (fun v n => ?_) addr
  rw [State.window_record_of_records hrecords]

/-- What the write reads of a state. -/
theorem takesWindowWrite_of_same {s s' : State} {r : Passing} {d : WriteData} {w : Nat} {rec : WindowRecord}
    {slot lane line : Nat} (h : TakesWindowWrite s r d w rec slot lane line) (hpath : s'.path = s.path)
    (hstraps : s'.straps = s.straps) (hreport : s'.report = s.report) (hstate : s'.sess.state ≠ .draining)
    (hguards : s'.aw.guards r.addr = none) (hrecord : s'.sess.record = s.sess.record) (hrecords : s'.records = s.records) :
    TakesWindowWrite s' r d w rec slot lane line := by
  have hsize : s'.sess.blockSize = s.sess.blockSize := by rw [SessionControl.blockSize, SessionControl.blockSize, hrecord]
  have hdrain : s'.drainOver = false := by
    rw [Bool.eq_false_iff]
    exact fun hover => hstate (s'.drainOver_iff.1 hover).1
  exact {
    settled := ⟨hreport.trans h.settled.1, hdrain⟩
    active := by rw [hstraps, h.active]
    head := by rw [hpath, h.head]
    granted := by rw [hpath]; exact h.granted
    write := h.write
    enabled := h.enabled
    unguarded := hguards
    apart := by rw [InCommandSlot, InResponseSlot, hstraps]; exact h.apart
    alone := by rw [State.windowsAt_of_records hrecord hrecords, h.alone]
    record := by rw [State.window_record_of_records hrecords, h.record]
    block := by rw [hsize, h.block]
    place := by rw [hsize]; exact h.place
    within := by rw [hsize]; exact h.within }

/-! ### Mapping (R15) -/

/-- The frame number that R15 selects is the only one of its residue in its range. -/
theorem mapFrame_eq {reference slots anchor slot : Nat} {f : Int} (heven : slots % 2 = 0)
    (hresidue : f % slots = ((slot + anchor : Nat) : Int) % slots) (hlow : (reference : Int) < f + (slots / 2 : Nat))
    (hhigh : f ≤ reference + (slots / 2 : Nat)) : mapFrame reference slots anchor slot = f := by
  have hcast : ((slot + anchor : Nat) : Int) = slot + anchor := by push_cast; ring
  have hhalf : 2 * (slots / 2) = slots := by omega
  let low : Int := (reference : Int) - (slots / 2 : Nat) + 1
  have hsame : ((slot : Int) + anchor - low) % slots = (f - low) % slots := by
    rw [Int.sub_emod, ← hcast, ← hresidue, ← Int.sub_emod]
  have hrange : (f - low) % slots = f - low := Int.emod_eq_of_lt (by omega) (by omega)
  have hmap : mapFrame reference slots anchor slot = low + ((slot : Int) + anchor - low) % slots := rfl
  rw [hmap, hsame, hrange]
  omega

/-- A window anchored at slot `slot` to frame `q` maps that slot to `q`. -/
theorem mapFrame_anchor {q slots slot : Nat} (heven : slots % 2 = 0) (hslot : slot < slots) :
    mapFrame q slots (((q : Int) - slot) % slots).toNat slot = q := by
  have hpos : (0 : Int) < slots := by omega
  have hcast : ((slot + (((q : Int) - slot) % slots).toNat : Nat) : Int) = slot + ((q : Int) - slot) % slots := by
    rw [Nat.cast_add, Int.toNat_of_nonneg (Int.emod_nonneg _ (by omega))]
  refine mapFrame_eq heven ?_ (by omega) (by omega)
  rw [hcast, Int.add_emod_emod, add_sub_cancel]

/-! ### The states of the session (R8 to R13) -/

/-- R9: the stall timer restarts. -/
def State.restarted (s : State) : State := { s with sess := { s.sess with timer := some (fullStall s) } }

/-- R11: window `w` anchored so that slot `slot` maps to frame `q`. -/
def Window.anchorAt (slots slot q : Nat) (x : Window) : Window :=
  { x with anchor := (((q : Int) - slot) % slots).toNat, reference := some q, anchored := true }

/-- R11: the session control of a session resumed at slot `slot` of window `w`. -/
def State.resumedSess (s : State) (w slots slot : Nat) : SessionControl :=
  { s.sess with
    state := .running, timer := some (fullStall s), resume := some (nextNumber s)
    windows := (s.sess.windows.map fun x => if x.record = none then x else { x with reference := none }).modify w
      (Window.anchorAt slots slot (nextNumber s)) }

theorem Window.unsetReference_eq (x : Window) :
    x.unsetReference = if x.record = none then x else { x with reference := none } := by
  unfold Window.unsetReference
  cases hrecord : x.record <;> simp

theorem State.resumeSession_eq (s : State) (w slots slot : Nat) :
    s.resumeSession w slots slot
      = { s with
          sess := s.resumedSess w slots slot
          ft := { s.ft with discontinuity := some (nextNumber s) }
          rw := filed s.rw ⟨.resume, w, some (nextNumber s), slot, 0⟩ } := by
  rw [State.resumeSession, State.file_eq_filed, ft_nextNumber_eq, SessionControl.stallTime_eq, State.resumedSess,
    funext Window.unsetReference_eq]
  rfl

section states

variable {s : State} (v : Nat) (r : WindowRecord) (p : WindowPlace) (d : WriteData)

theorem State.windowWrite_of_idle (h : s.sess.state = .idle) : s.windowWrite v r p d = s := by
  rw [State.windowWrite, h]

theorem State.windowWrite_of_draining (h : s.sess.state = .draining) :
    s.windowWrite v r p d
      = { s with
          sess :=
            { s.sess with
              windows := s.sess.windows.modify v fun x =>
                { x with counts := { x.counts with ignored := satInc x.counts.ignored } } } } := by
  rw [State.windowWrite, h]
  rfl

theorem State.windowWrite_of_armed (h : s.sess.state = .armed) :
    s.windowWrite v r p d = if isSourceLane s.tracks ⟨v, p.lane⟩ then s.captureWrite v r p d else s := by
  rw [State.windowWrite, h]

theorem State.windowWrite_of_anchored (h : s.sess.state = .running) (hanchored : (s.sess.window v).anchored = true) :
    s.windowWrite v r p d
      = if isSourceLane s.tracks ⟨v, p.lane⟩ then s.restarted.captureWrite v r p d else s.restarted := by
  rw [State.windowWrite, h]
  simp only [hanchored, if_true, SessionControl.stallTime_eq]
  rfl

theorem State.windowWrite_of_unanchored (h : s.sess.state = .running) (hanchored : (s.sess.window v).anchored = false)
    {q : Nat} (hresume : s.sess.resume = some q) :
    s.windowWrite v r p d
      = let t := s.restarted.setSess (s.restarted.sess.modifyWindow v (Window.anchorAt r.slots p.slot q))
        if isSourceLane s.tracks ⟨v, p.lane⟩ then t.captureMapped v r p q d else t := by
  rw [State.windowWrite, h]
  have hq : s.sess.resume.getD 0 = q := by rw [hresume, Option.getD_some]
  simp only [hanchored, hq, Bool.false_eq_true, if_false, SessionControl.stallTime_eq]
  rfl

theorem State.windowWrite_of_used_up (h : s.sess.state = .stalled) (hlast : s.ft.newest = some 4294967295) :
    s.windowWrite v r p d = if isSourceLane s.tracks ⟨v, p.lane⟩ then s.strayWrite v p.slot else s := by
  rw [State.windowWrite, h]
  simp only [hlast, lastFrame, if_true]

theorem State.windowWrite_of_stalled (h : s.sess.state = .stalled) (hlast : s.ft.newest ≠ some 4294967295) :
    s.windowWrite v r p d
      = if isSourceLane s.tracks ⟨v, p.lane⟩ then
          (s.resumeSession v r.slots p.slot).captureMapped v r p (nextNumber s) d
        else s.resumeSession v r.slots p.slot := by
  rw [State.windowWrite, h]
  simp only [lastFrame, hlast, if_false, ft_nextNumber_eq]

end states

/-- A capture write of a window that is anchored at its slot is mapped to the anchor's frame, and leaves the window's
reference there. -/
theorem State.captureWrite_of_anchorAt {s : State} {v slot q : Nat} {x : Window} (r : WindowRecord)
    (hwindow : s.sess.windows[v]? = some (x.anchorAt r.slots slot q)) (heven : r.slots % 2 = 0)
    (hslot : slot < r.slots) (hq : q ≤ 4294967295) (lane line : Nat) (d : WriteData) :
    s.captureWrite v r ⟨slot, lane, line⟩ d = s.captureMapped v r ⟨slot, lane, line⟩ q d := by
  have hat : s.sess.window v = x.anchorAt r.slots slot q := by
    rw [SessionControl.window, List.getD_eq_getElem?_getD, hwindow, Option.getD_some]
  have hmap : mapFrame ((s.sess.window v).reference.getD s.ft.reference) r.slots (s.sess.window v).anchor slot = q := by
    rw [hat]
    exact mapFrame_anchor heven hslot
  have hrefer : s.setSess (s.sess.modifyWindow v (Window.refer q)) = s := by
    have hsame : Window.refer q (x.anchorAt r.slots slot q) = x.anchorAt r.slots slot q := by
      simp [Window.refer, Window.anchorAt]
    obtain ⟨hlt, hget⟩ := List.getElem?_eq_some_iff.1 hwindow
    have hwindows : s.sess.windows.modify v (Window.refer q) = s.sess.windows := by
      rw [modify_eq_set_of_getElem? _ hwindow, hsame, ← hget, List.set_getElem_self]
    rw [SessionControl.modifyWindow, hwindows]
    rfl
  rw [State.captureWrite_eq]
  simp only [hmap]
  rw [if_neg (by rw [lastFrame]; omega), Int.toNat_natCast, hrefer]

/-- Settles O40: each state's part of the write, and an anchored window maps its slot to the anchor's frame. -/
theorem windowWritesMoveTheSession : Obligations.WindowWritesMoveTheSession := by
  unfold Obligations.WindowWritesMoveTheSession
  intro s r d w rec slot lane line h hmirror u q anchor resumed
  have hexec := exec_takesWindowWrite h hmirror
  have hsource := isSourceLane_iff s.tracks ⟨w, lane⟩
  obtain ⟨x, hx, hxrecord⟩ := SessionControl.getElem?_of_window h.record
  refine ⟨fun hstate => ?_, fun hno => ?_, fun hnames heven => ⟨fun f hf hstate hanchored hresume => ?_,
    fun hstate hlast hq => ?_⟩⟩
  · rw [hexec, State.windowWrite_of_draining (s := u) w rec _ d hstate]
    rfl
  · have hlane : ¬ isSourceLane u.tracks ⟨w, lane⟩ = true := fun hs => by
      obtain ⟨y, hy, hnames⟩ := hsource.1 hs
      exact hno y hy hnames
    refine ⟨fun hstate => ?_, fun hstate hanchored => ?_, fun f hstate hanchored hresume => ?_, fun hstate hlast => ?_,
      fun hstate hlast => ?_⟩
    · rcases hstate with hstate | hstate
      · rw [hexec, State.windowWrite_of_idle (s := u) w rec _ d hstate]
      · rw [hexec, State.windowWrite_of_armed (s := u) w rec _ d hstate, if_neg hlane]
    · rw [hexec, State.windowWrite_of_anchored (s := u) w rec _ d hstate hanchored, if_neg hlane]
      rfl
    · rw [hexec, State.windowWrite_of_unanchored (s := u) w rec _ d hstate hanchored hresume]
      exact congrArg _ (if_neg hlane)
    · rw [hexec, State.windowWrite_of_used_up (s := u) w rec _ d hstate hlast, if_neg hlane]
    · rw [hexec, State.windowWrite_of_stalled (s := u) w rec _ d hstate hlast, if_neg hlane, State.resumeSession_eq]
      rfl
  · have hlane : isSourceLane u.tracks ⟨w, lane⟩ = true := hsource.2 hnames
    let s' : State := { s with sess := { s.sess with windows := s.sess.windows.modify w (anchor f) } }
    have hrecords : s'.records = s.records := State.records_of_modify rfl fun _ => rfl
    have h' : TakesWindowWrite s' r d w rec slot lane line := takesWindowWrite_of_same h rfl rfl rfl
      (fun hdrain => nomatch hstate.symm.trans hdrain) h.unguarded rfl hrecords
    have hwindow : s'.sess.windows[w]? = some (x.anchorAt rec.slots slot f) := by
      simp [s', hx, anchor, Window.anchorAt]
    have hanchored' : (s'.sess.window w).anchored = true := by
      rw [SessionControl.window, List.getD_eq_getElem?_getD, hwindow]
      rfl
    rw [hexec, exec_takesWindowWrite h' hmirror,
      State.windowWrite_of_unanchored (s := u) w rec _ d hstate hanchored hresume,
      State.windowWrite_of_anchored (s := forwarded s' r) w rec _ d hstate hanchored']
    have hwrites := State.captureWrite_of_anchorAt (s := (forwarded s' r).restarted) rec hwindow heven h.within.1 hf
      lane line d
    refine congrArg _ ((if_pos hlane).trans (Eq.trans ?_ (if_pos hlane).symm))
    rw [hwrites]
    rfl
  · have hlane : isSourceLane u.tracks ⟨w, lane⟩ = true := hsource.2 hnames
    let s' : State :=
      { s with
        sess := resumed, ft := { s.ft with discontinuity := some q }
        rw := filed s.rw ⟨.resume, w, some q, slot, 0⟩ }
    have hresumed : s' = s.resumeSession w rec.slots slot := (s.resumeSession_eq w rec.slots slot).symm
    have hrecords : s'.records = s.records := by rw [hresumed, State.resumeSession_records]
    have h' : TakesWindowWrite s' r d w rec slot lane line := takesWindowWrite_of_same h rfl rfl rfl
      (fun hdrain => nomatch hdrain) h.unguarded rfl hrecords
    have hwindow : s'.sess.windows[w]?
        = some (({ x with reference := none } : Window).anchorAt rec.slots slot q) := by
      simp [s', resumed, hx, hxrecord, anchor, Window.anchorAt]
    have hanchored' : (s'.sess.window w).anchored = true := by
      rw [SessionControl.window, List.getD_eq_getElem?_getD, hwindow]
      rfl
    rw [hexec, exec_takesWindowWrite h' hmirror, State.windowWrite_of_stalled (s := u) w rec _ d hstate hlast,
      State.windowWrite_of_anchored (s := forwarded s' r) w rec _ d rfl hanchored']
    have hwrites := State.captureWrite_of_anchorAt (s := (forwarded s' r).restarted) rec hwindow heven h.within.1 hq
      lane line d
    refine congrArg _ ((if_pos hlane).trans (Eq.trans ?_ (if_pos hlane).symm))
    rw [hwrites, State.resumeSession_eq]
    rfl

end Sys2Proof.Machine
end

section
/-! The opening of a frame, and the assembly of a capture write into its block. -/

namespace Sys2Proof.Machine
open Sys2Proof.Spec

/-! ### Opening a frame (R41, R42, R62, R63) -/

theorem Bus.snapshot_eq (b : Bus) : b.snapshot = snapshotOf b := by
  have hmissing : (b.target.filter fun i => (coefficientOf b.applied i.track).isNone)
      = b.target.filter fun i => coefficientOf b.applied i.track == none := by
    refine List.filter_congr fun i _ => ?_
    cases coefficientOf b.applied i.track <;> rfl
  rw [Bus.snapshot, hmissing]
  rfl

theorem insertFrame_eq (f : Frame) (frames : List Frame) :
    insertFrame f frames
      = (frames.takeWhile fun x => decide (x.number ≤ f.number)) ++ [f]
        ++ frames.dropWhile fun x => decide (x.number ≤ f.number) := by
  induction frames with
  | nil => rfl
  | cons x xs ih =>
    rw [insertFrame]
    by_cases hless : f.number < x.number
    · have hstop : decide (x.number ≤ f.number) = false := by simpa using hless
      simp [hless, hstop]
    · have hgo : decide (x.number ≤ f.number) = true := by simpa using hless
      simp [hless, hgo, ih]

theorem State.insertNew_eq (s : State) (g : Nat) :
    let new : Frame :=
      ⟨g, decide (s.ft.discontinuity = some g), [], some (s.buses.map snapshotOf),
        s.buses.map fun _ => List.replicate s.sess.blockSize 0, none, none, [], [], false, false⟩
    s.insertNew g =
      { s with
        ft :=
          { s.ft with
            frames := (s.ft.frames.takeWhile fun x => decide (x.number ≤ g)) ++ [new]
              ++ s.ft.frames.dropWhile fun x => decide (x.number ≤ g)
            reference := max s.ft.reference g
            counters := { s.ft.counters with opened := satInc s.ft.counters.opened } }
        buses := s.buses.map fun b => { b with applied := b.target, muteApplied := b.muteTarget }
        sess := { s.sess with windows := s.sess.windows.map fun x => { x with strayArmed := true } } } := by
  intro new
  have hnew : s.newFrame g = new := by
    have hflag : (s.ft.discontinuity == some g) = decide (s.ft.discontinuity = some g) := beq_eq_decide _ _
    rw [State.newFrame, hflag, funext Bus.snapshot_eq, ← List.map_const']
  have hframes := insertFrame_eq new s.ft.frames
  rw [State.insertNew, hnew, hframes]
  rfl

theorem State.closeBelow_of_le {s : State} {limit : Nat} (h : limit ≤ nextNumber s) (cause : Cause) :
    s.closeBelow limit cause = s := by
  rw [State.closeBelow, ft_nextNumber_eq, Nat.sub_eq_zero_of_le h]
  rfl

theorem nextNumber_closeFrame (s : State) (f : Frame) (cause : Cause) (empty : Bool) :
    nextNumber (s.closeFrame f cause empty) = f.number + 1 := by
  rw [← ft_nextNumber_eq, State.closeFrame_ft]
  rfl

theorem nextNumber_closeOne (s : State) (g : Nat) (cause : Cause) : nextNumber (s.closeOne g cause) = g + 1 := by
  cases h : s.ft.find g with
  | some f => rw [State.closeOne_held h, nextNumber_closeFrame, FrameTable.find_number h]
  | none => rw [State.closeOne_empty h, nextNumber_closeFrame]

theorem State.closeBelow_of_lt {s : State} {limit : Nat} (h : nextNumber s < limit) (cause : Cause) :
    s.closeBelow limit cause = (s.closeOne (nextNumber s) cause).closeBelow limit cause := by
  have hcount : limit - nextNumber s = (limit - (nextNumber s + 1)) + 1 := by omega
  rw [State.closeBelow, State.closeBelow, ft_nextNumber_eq, ft_nextNumber_eq, nextNumber_closeOne, hcount,
    State.closeRun]

theorem State.closeFrame_lateness (s : State) (f : Frame) (cause : Cause) (empty : Bool) :
    (s.closeFrame f cause empty).sess.lateness = s.sess.lateness := by
  rw [SessionControl.lateness, SessionControl.lateness, (s.closeFrame_sess f cause empty).2.1]

theorem State.closeOne_lateness (s : State) (g : Nat) (cause : Cause) :
    (s.closeOne g cause).sess.lateness = s.sess.lateness := by
  cases h : s.ft.find g with
  | some f => rw [State.closeOne_held h, State.closeFrame_lateness]
  | none => rw [State.closeOne_empty h, State.closeFrame_lateness]

/-- R43: an open closes the oldest number that the lateness rule no longer allows. -/
theorem State.openFrame_of_late {s : State} {g : Nat} (h : nextNumber s + s.sess.lateness ≤ g) :
    s.openFrame g = (s.closeOne (nextNumber s) .lateness).openFrame g := by
  rw [State.openFrame, State.openFrame, State.closeOne_lateness, State.closeBelow_of_lt (by omega)]

/-- R47: an open closes the due frames. -/
theorem State.openFrame_of_due {s : State} {g : Nat} (h : g < nextNumber s + s.sess.lateness) {f : Frame}
    (hdue : Due s f) : s.openFrame g = (s.closeFrame f .complete false).openFrame g := by
  have hnumber : f.number = nextNumber s := FrameTable.find_number hdue.1
  rw [State.openFrame, State.openFrame, State.closeFrame_lateness, State.closeBelow_of_le (by omega),
    State.closeBelow_of_le (by rw [nextNumber_closeFrame]; omega), State.closeDue_of_due hdue]

theorem State.openFrame_of_none {s : State} {g : Nat} (h : g < nextNumber s + s.sess.lateness)
    (hnone : ∀ f, ¬ Due s f) : s.openFrame g = s.insertNew g := by
  rw [State.openFrame, State.closeBelow_of_le (by omega), State.closeDue, State.closeComplete_of_none hnone]

/-! ### What an open leaves (R41) -/

/-- A number that is neither closed nor held stays so while older numbers close. -/
def State.Awaits (s : State) (g : Nat) : Prop := nextNumber s ≤ g ∧ s.ft.find g = none

theorem State.Awaits.closeFrame {s : State} {g : Nat} (h : s.Awaits g) {f : Frame} (hf : f.number < g)
    (cause : Cause) (empty : Bool) : (s.closeFrame f cause empty).Awaits g := by
  refine ⟨by rw [nextNumber_closeFrame]; exact hf, ?_⟩
  rw [State.closeFrame_ft]
  exact List.find?_eq_none.2 fun x hx => List.find?_eq_none.1 h.2 x (List.mem_filter.1 hx).1

theorem State.Awaits.closeOne {s : State} {g n : Nat} (h : s.Awaits g) (hn : n < g) (cause : Cause) :
    (s.closeOne n cause).Awaits g := by
  cases hfind : s.ft.find n with
  | some f =>
    rw [State.closeOne_held hfind]
    exact h.closeFrame (by rwa [FrameTable.find_number hfind]) cause false
  | none =>
    rw [State.closeOne_empty hfind]
    exact h.closeFrame hn cause true

theorem State.Awaits.closeRun {g : Nat} {cause : Cause} {count n : Nat} {s : State} (h : s.Awaits g)
    (hn : n + count ≤ g) : (State.closeRun cause count n s).Awaits g := by
  induction count generalizing n s with
  | zero => exact h
  | succ count ih => exact ih (h.closeOne (by omega) cause) (by omega)

theorem State.Awaits.closeComplete {g fuel : Nat} {s : State} (h : s.Awaits g) :
    (State.closeComplete fuel s).Awaits g := by
  induction fuel generalizing s with
  | zero => exact h
  | succ fuel ih =>
    by_cases hdue : ∃ f, Due s f
    · obtain ⟨f, hf⟩ := hdue
      have hnumber : f.number = nextNumber s := FrameTable.find_number hf.1
      have hbelow : f.number < g := by
        refine lt_of_le_of_ne (hnumber.trans_le h.1) fun hsame => ?_
        have hfind := hf.1
        rw [← hnumber, hsame, h.2] at hfind
        exact nomatch hfind
      rw [State.closeComplete_of_due hf]
      exact ih (h.closeFrame hbelow .complete false)
    · rwa [State.closeComplete_of_none fun f hf => hdue ⟨f, hf⟩]

/-- R41: after the open of frame `g`, that frame is held and not closed. -/
theorem State.Awaits.openFrame {s : State} {g : Nat} (h : s.Awaits g) (hlateness : 1 ≤ s.sess.lateness) :
    nextNumber (s.openFrame g) ≤ g ∧ ((s.openFrame g).ft.find g).isSome = true := by
  have hclosed : ((s.closeBelow (g + 1 - s.sess.lateness) .lateness).closeDue).Awaits g := by
    refine State.Awaits.closeComplete ?_
    have hnext : nextNumber s ≤ g := h.1
    rw [State.closeBelow, ft_nextNumber_eq]
    exact h.closeRun (by omega)
  refine ⟨hclosed.1, ?_⟩
  rw [State.openFrame, State.insertNew_eq]
  refine List.find?_isSome.2 ⟨_, List.mem_append_left _ (List.mem_append_right _ List.mem_cons_self), ?_⟩
  exact beq_self_eq_true g

/-! ### What an open keeps -/

theorem ArchiveWriter.placeIn_area (w : ArchiveWriter) (info : FrameInfo) (f : Frame) (parts : List EntryRef) (n : Nat) :
    (w.placeIn info f parts n).area = w.area := by
  unfold ArchiveWriter.placeIn
  split
  · exact w.modifySegment_area n _
  · rfl

theorem ArchiveWriter.placeFresh_area (w : ArchiveWriter) (info : FrameInfo) (f : Frame) (parts : List EntryRef)
    (newest : Option Nat) : (w.placeFresh info f parts newest).1.area = w.area := by
  unfold ArchiveWriter.placeFresh
  split
  · rw [ArchiveWriter.placeIn_area, ArchiveWriter.evaluateWarning_area]
    exact (ArchiveWriter.appendRecord_table _ _).1.1.trans (w.modifySegment_area _ _)
  · rfl

theorem ArchiveWriter.takeFrame_area (w : ArchiveWriter) (info : FrameInfo) (f : Frame) (newest : Option Nat) :
    (w.takeFrame info f newest).1.area = w.area := by
  unfold ArchiveWriter.takeFrame ArchiveWriter.place
  split
  · rfl
  · split
    · rfl
    · dsimp only
      split
      · split
        · exact w.placeIn_area _ _ _ _
        · rw [ArchiveWriter.placeFresh_area]
          exact (ArchiveWriter.appendRecord_table _ _).1.1.trans (w.modifySegment_area _ _)
      · exact w.placeFresh_area _ _ _ _

theorem closeTracks_sources (f : Frame) (held : List Frame) (n : Nat) (ts : List Track) :
    (closeTracks f held n ts).map Track.record = ts.map Track.record := by
  induction ts generalizing n with
  | nil => rfl
  | cons x xs ih =>
    rw [closeTracks, List.map_cons, List.map_cons, ih]
    split
    · rw [Track.close_record]
    · rfl

/-- What a window write reads of a state, but for the windows. -/
def State.footing (s : State) :=
  (s.path, s.straps, s.report, s.sess.state, s.sess.record, s.sess.timer, s.aw.area, s.tracks.map Track.record)

theorem State.closeFrame_footing (s : State) (f : Frame) (cause : Cause) (empty : Bool) :
    (s.closeFrame f cause empty).footing = s.footing := by
  obtain ⟨hpath, -, hstraps, -, hreport, -⟩ := s.closeFrame_frame f cause empty
  obtain ⟨hstate, hrecord, -, -, htimer⟩ := s.closeFrame_sess f cause empty
  have harea : (s.closeFrame f cause empty).aw.area = s.aw.area := by
    rw [State.closeFrame_eq]
    simp only [State.countClose, State.produce_eq, State.setFt_aw, State.evaluateClose_eq, ArchiveWriter.takeFrame_area]
    rfl
  have htracks : (s.closeFrame f cause empty).tracks.map Track.record = s.tracks.map Track.record := by
    rw [State.closeFrame_eq]
    simp only [State.countClose, State.produce_eq, State.setFt_tracks, State.evaluateClose_eq, closeTracks_sources]
    rfl
  rw [State.footing, hpath, hstraps, hreport, hstate, hrecord, htimer, harea, htracks]
  rfl

theorem State.openFrame_footing (s : State) (g : Nat) : (s.openFrame g).footing = s.footing :=
  State.openFrame_keeps State.closeFrame_footing (fun _ _ => rfl) s g

theorem isSourceLane_of_records {ts us : List Track} (h : ts.map Track.record = us.map Track.record) (src : Source) :
    isSourceLane ts src = isSourceLane us src := by
  have hnames : ∀ l : List Track, (∃ x ∈ l, Names x src)
      ↔ ∃ rec ∈ l.map Track.record, rec.enabled = true ∧ (rec.primary = some src ∨ rec.alternate = some src) := by
    intro l
    simp only [List.mem_map, exists_exists_and_eq_and]
  rw [Bool.eq_iff_iff, isSourceLane_iff, isSourceLane_iff, hnames, hnames, h]

/-- A line outside the area is in no guard set. -/
theorem ArchiveWriter.guards_of_outside {w : ArchiveWriter} {addr : Nat}
    (h : ∀ a ∈ w.area, addr < a.base ∨ a.base + a.count * (a.sizeMiB * 1048576) ≤ addr) : w.guards addr = none := by
  unfold ArchiveWriter.guards
  cases harea : w.area with
  | none => rfl
  | some a =>
    have houtside : ¬ a.region.contains addr = true := by
      rw [Region.contains, Bool.and_eq_true, decide_eq_true_iff, decide_eq_true_iff]
      have := h a (by rw [harea]; rfl)
      simp only [Area.region, Area.segmentBytes]
      omega
    simp only [houtside, Bool.false_eq_true, if_false]

end Sys2Proof.Machine
end

section
/-! A capture write: stray, late, assembled into its block, or without a buffer. -/

namespace Sys2Proof.Machine
open Sys2Proof.Spec

/-! ### Counters and first records of a window (R17, R24) -/

theorem SessionControl.window_of_getElem? {c : SessionControl} {w : Nat} {x : Window} (h : c.windows[w]? = some x) :
    c.window w = x := by
  rw [SessionControl.window, List.getD_eq_getElem?_getD, h, Option.getD_some]

theorem State.countWindow_window {s : State} {w : Nat} {x : Window} (h : s.sess.windows[w]? = some x)
    (f : WindowCounters → WindowCounters) :
    (s.countWindow w f).sess.window w = { x with counts := f x.counts } := by
  refine SessionControl.window_of_getElem? ?_
  rw [State.countWindow, State.setSess_sess, SessionControl.modifyWindow, List.getElem?_modify_eq, h]
  rfl

/-- A counted event of a window that files a record while it is armed, and disarms it. -/
theorem State.countOnce_eq {s : State} {w : Nat} {x : Window} (h : s.sess.windows[w]? = some x)
    (f : WindowCounters → WindowCounters) (disarm : Window → Window) (armed : Bool) (record : WindowCounters → Record)
    (hdisarm : armed = false → disarm { x with counts := f x.counts } = { x with counts := f x.counts }) :
    let t := s.countWindow w f
    (if armed then (t.setSess (t.sess.modifyWindow w disarm)).file (record (t.sess.window w).counts) else t)
      = { s with
          sess := { s.sess with
            windows := s.sess.windows.modify w fun y => disarm { y with counts := f y.counts } }
          rw := if armed then filed s.rw (record (f x.counts)) else s.rw } := by
  intro t
  cases armed with
  | true =>
    have htwice : (s.sess.windows.modify w fun y => { y with counts := f y.counts }).modify w disarm
        = s.sess.windows.modify w fun y => disarm { y with counts := f y.counts } := List.modify_modify_eq _ _ _ _
    rw [if_pos rfl, if_pos rfl, State.countWindow_window h, State.file_eq_filed, ← htwice]
    rfl
  | false =>
    have hsame : s.sess.windows.modify w (fun y => disarm { y with counts := f y.counts })
        = s.sess.windows.modify w fun y => { y with counts := f y.counts } := by
      rw [modify_eq_set_of_getElem? _ h, modify_eq_set_of_getElem? _ h, hdisarm rfl]
    rw [hsame]
    rfl

theorem State.strayWrite_eq {s : State} {w : Nat} {x : Window} (h : s.sess.windows[w]? = some x) (slot : Nat) :
    s.strayWrite w slot
      = { s with
          sess := { s.sess with
            windows := s.sess.windows.modify w fun y =>
              { y with strayArmed := false, counts := { y.counts with stray := satInc y.counts.stray } } }
          rw := if x.strayArmed then filed s.rw ⟨.strayWrite, w, none, slot, satInc x.counts.stray⟩ else s.rw } := by
  have honce := State.countOnce_eq h (fun c => { c with stray := satInc c.stray }) (fun y => { y with strayArmed := false })
    x.strayArmed (fun c => ⟨.strayWrite, w, none, slot, c.stray⟩) (fun hoff => by rw [← hoff])
  rw [State.strayWrite, SessionControl.window_of_getElem? h]
  exact honce

theorem State.lateWrite_eq {s : State} {w : Nat} {x : Window} (h : s.sess.windows[w]? = some x) (slot g : Nat) :
    s.lateWrite w slot g
      = { s with
          sess := { s.sess with
            windows := s.sess.windows.modify w fun y =>
              { y with lateArmed := false, counts := { y.counts with late := satInc y.counts.late } } }
          rw := if x.lateArmed then filed s.rw ⟨.lateWrite, w, some g, slot, satInc x.counts.late⟩ else s.rw } := by
  have honce := State.countOnce_eq h (fun c => { c with late := satInc c.late }) (fun y => { y with lateArmed := false })
    x.lateArmed (fun c => ⟨.lateWrite, w, some g, slot, c.late⟩) (fun hoff => by rw [← hoff])
  rw [State.lateWrite, SessionControl.window_of_getElem? h]
  exact honce

/-! ### The samples of a block (R3) -/

theorem samplesOf_cons (format : Format) (a b c d : Byte) (rest : List Byte) :
    samplesOf format (a :: b :: c :: d :: rest)
      = (BitVec.ofNat 24 (fieldAt (a :: b :: c :: d :: rest) (if format = .left then 1 else 0) 3)).toInt
        :: samplesOf format rest := by
  cases format <;> rfl

theorem fieldAt_next (a b c d : Byte) (rest : List Byte) (n size : Nat) :
    fieldAt (a :: b :: c :: d :: rest) (n + 4) size = fieldAt rest n size := rfl

theorem samplesOf_eq (format : Format) (n : Nat) (bytes : List Byte) (h : bytes.length = 4 * n) :
    samplesOf format bytes = samplesIn format n bytes := by
  induction n generalizing bytes with
  | zero =>
    rw [List.length_eq_zero_iff.1 (by omega : bytes.length = 0)]
    rfl
  | succ n ih =>
    match bytes, h with
    | a :: b :: c :: d :: rest, h =>
      have hrest : rest.length = 4 * n := by
        simp only [List.length_cons] at h
        omega
      rw [samplesOf_cons, ih rest hrest, samplesIn, samplesIn, List.range_succ_eq_map, List.map_cons, List.map_map]
      congr 1
      · rw [Nat.mul_zero, Nat.zero_add]
      · refine List.map_congr_left fun i _ => ?_
        have hnext : 4 * (i + 1) + (if format = .left then 1 else 0) = 4 * i + (if format = .left then 1 else 0) + 4 := by
          omega
        rw [Function.comp_apply, Nat.succ_eq_add_one, hnext, fieldAt_next]

/-! ### The block of a capture write (R18 to R20) -/

/-- The buffer's key (R18). -/
def hasKey (w lane g : Nat) (b : Buffer) : Bool := decide (b.window = w ∧ b.lane = lane ∧ b.frame = g)

theorem Buffer.isKeyed_eq (w lane g : Nat) : (fun b : Buffer => b.isKeyed ⟨w, lane⟩ g) = hasKey w lane g := by
  funext b
  rw [Buffer.isKeyed, hasKey, Bool.eq_iff_iff]
  simp [and_assoc]

theorem Buffer.isFull_iff (b : Buffer) : b.isFull = true ↔ ∀ l ∈ b.lines, l.cover = fullMask := by
  simp [Buffer.isFull]

/-- R18: the lines of a block after a copy into one of them. -/
def copiedLines (line : Nat) (d : WriteData) (lines : List BufferLine) : List BufferLine :=
  lines.modify line fun l =>
    ⟨(List.range 64).map fun k => if d.mask.getLsbD k = true then d.data.getD k 0 else l.data.getD k 0,
      l.cover ||| d.mask⟩

theorem Buffer.write_eq (b : Buffer) (line : Nat) (d : WriteData) :
    b.write line d = { b with lines := copiedLines line d b.lines } := rfl

section assemble

variable {s : State} {w lane g : Nat} {f : Frame} (hf : s.ft.find g = some f) (format : Format) (line : Nat)
  (d : WriteData)
include hf

theorem State.assemble_of_completed (h : ⟨w, lane⟩ ∈ f.completed) :
    s.assemble format ⟨w, lane⟩ g line d = s.countWindow w fun c => { c with rewrite := satInc c.rewrite } := by
  rw [State.assemble, hf]
  exact if_pos (List.contains_iff_mem.2 h)

variable (hcompleted : ⟨w, lane⟩ ∉ f.completed)
include hcompleted

theorem State.assemble_of_failed (h : ⟨w, lane⟩ ∈ f.failed) : s.assemble format ⟨w, lane⟩ g line d = s := by
  rw [State.assemble, hf]
  exact (if_neg (mt List.contains_iff_mem.1 hcompleted)).trans (if_pos (List.contains_iff_mem.2 h))

variable (hfailed : ⟨w, lane⟩ ∉ f.failed)
include hfailed

/-- R18: the block is neither COMPLETED nor FAILED. -/
theorem State.assemble_of_buffer {b : Buffer} (hb : s.buffers.find? (hasKey w lane g) = some b) :
    s.assemble format ⟨w, lane⟩ g line d = s.keepBuffer format { b with lines := copiedLines line d b.lines } := by
  rw [State.assemble, hf, Buffer.isKeyed_eq]
  simp only [hb, List.contains_iff_mem, hcompleted, hfailed, if_false]
  rw [Buffer.write_eq]

theorem State.assemble_of_no_buffer (hb : s.buffers.find? (hasKey w lane g) = none) :
    s.assemble format ⟨w, lane⟩ g line d
      = if s.buffers.length < 256 then
          s.keepBuffer format
            ⟨w, lane, g, copiedLines line d (List.replicate (s.sess.blockSize / 16) ⟨List.replicate 64 0, 0⟩)⟩
        else s.exhaust ⟨w, lane⟩ g (!f.exhausted) := by
  rw [State.assemble, hf, Buffer.isKeyed_eq]
  simp only [hb, List.contains_iff_mem, hcompleted, hfailed, if_false]
  rw [Buffer.write_eq]
  rfl

end assemble

theorem State.keepBuffer_of_kept {s : State} {b : Buffer} (h : ∃ l ∈ b.lines, l.cover ≠ fullMask) (format : Format) :
    s.keepBuffer format b
      = { s with
          buffers := if s.buffers.any (hasKey b.window b.lane b.frame) then
              s.buffers.map fun x => if hasKey b.window b.lane b.frame x then b else x
            else s.buffers ++ [b] } := by
  have hopen : ¬ b.isFull = true := fun hfull => by
    obtain ⟨l, hl, hcover⟩ := h
    exact hcover (b.isFull_iff.1 hfull l hl)
  have hkeyed : ∀ x : Buffer, x.isKeyed ⟨b.window, b.lane⟩ b.frame = hasKey b.window b.lane b.frame x := fun x =>
    congrFun (Buffer.isKeyed_eq b.window b.lane b.frame) x
  rw [State.keepBuffer, if_neg hopen]
  simp only [hkeyed]
  rfl

theorem State.keepBuffer_of_full {s : State} {b : Buffer} (h : ∀ l ∈ b.lines, l.cover = fullMask) (format : Format) :
    s.keepBuffer format b
      = ({ s with
          sess := { s.sess with
            windows := s.sess.windows.modify b.window fun x =>
              { x with counts := { x.counts with completed := satInc x.counts.completed } } }
          buffers := s.buffers.filter fun x => !hasKey b.window b.lane b.frame x
          ft := { s.ft with
            frames := s.ft.frames.map fun x =>
              if x.number = b.frame then { x with completed := x.completed ++ [⟨b.window, b.lane⟩] } else x } } :
          State).selectBlock ⟨b.window, b.lane⟩ b.frame (samplesOf format (b.lines.flatMap BufferLine.data)) := by
  have hkeyed : ∀ x : Buffer, x.isKeyed ⟨b.window, b.lane⟩ b.frame = hasKey b.window b.lane b.frame x := fun x =>
    congrFun (Buffer.isKeyed_eq b.window b.lane b.frame) x
  rw [State.keepBuffer, if_pos (b.isFull_iff.2 h), State.completeBlock, FrameTable.modify_eq_map]
  simp only [hkeyed]
  rfl

/-- R19: the block for which no buffer is free. -/
theorem State.exhaust_eq {s : State} {w : Nat} {x : Window} (h : s.sess.windows[w]? = some x) (lane g : Nat)
    (first : Bool) :
    s.exhaust ⟨w, lane⟩ g first
      = { s with
          sess := { s.sess with
            windows := s.sess.windows.modify w fun y =>
              { y with counts := { y.counts with exhausted := satInc y.counts.exhausted } } }
          ft := { s.ft with
            frames := s.ft.frames.map fun y =>
              if y.number = g then { y with failed := y.failed ++ [⟨w, lane⟩], exhausted := true } else y }
          rw := if first then filed s.rw ⟨.poolExhausted, w, some g, lane, satInc x.counts.exhausted⟩ else s.rw } := by
  let marked : State := s.setFt (s.ft.modify g fun f => { f with failed := f.failed ++ [⟨w, lane⟩], exhausted := true })
  have hcount := State.countWindow_window (s := marked) h fun c => { c with exhausted := satInc c.exhausted }
  rw [State.exhaust, ← FrameTable.modify_eq_map]
  cases first with
  | false => rfl
  | true =>
    rw [if_pos rfl, if_pos rfl, State.file_eq_filed,
      show (marked.countWindow w _).sess.window w = _ from hcount]
    rfl

/-- A block has at least four lines, so one copy into a fresh buffer leaves a line without marks. -/
theorem exists_unmarked {n line : Nat} (d : WriteData) (hsize : n % 64 = 0) (hline : line < n / 16) :
    ∃ l ∈ copiedLines line d (List.replicate (n / 16) ⟨List.replicate 64 0, 0⟩), l.cover ≠ fullMask := by
  obtain ⟨k, hk, hne⟩ : ∃ k, k < n / 16 ∧ line ≠ k := ⟨if line = 0 then 1 else 0, by split <;> omega, by split <;> omega⟩
  refine ⟨⟨List.replicate 64 0, 0⟩, List.mem_of_getElem? (i := k) ?_, by decide⟩
  rw [copiedLines, List.getElem?_modify_ne _ _ hne, List.getElem?_replicate, if_pos hk]

/-! ### The row of a capture write (R8, R9, R15) -/

/-- R9: in RUNNING the write restarts the stall timer. -/
def State.ticked (s : State) : State :=
  { s with sess := { s.sess with timer := if s.sess.state = .running then some (fullStall s) else s.sess.timer } }

theorem exec_captureWrite {s : State} {r : Passing} {d : WriteData} {w : Nat} {rec : WindowRecord}
    {slot lane line : Nat} (h : TakesWindowWrite s r d w rec slot lane line) (hmirror : rec.mirror = none)
    (hlane : isSourceLane s.tracks ⟨w, lane⟩ = true) (hstate : s.sess.state = .armed ∨ s.sess.state = .running)
    (hanchored : (s.sess.window w).anchored = true) :
    exec .passingRequestTake s
      = .next ((forwarded s r).ticked.captureWrite w rec ⟨slot, lane, line⟩ d) := by
  have hticked : ∀ t : Option Nat, (if s.sess.state = .running then some (fullStall s) else s.sess.timer) = t →
      (forwarded s r).ticked = { forwarded s r with sess := { s.sess with timer := t } } := by
    rintro t rfl
    rfl
  rw [exec_takesWindowWrite h hmirror]
  rcases hstate with hstate | hstate
  · rw [State.windowWrite_of_armed (s := forwarded s r) w rec _ d hstate, hticked s.sess.timer (by simp [hstate])]
    exact congrArg _ (if_pos hlane)
  · rw [State.windowWrite_of_anchored (s := forwarded s r) w rec _ d hstate hanchored,
      hticked (some (fullStall s)) (by simp [hstate])]
    exact congrArg _ (if_pos hlane)

/-- R15: a capture write by the number that its slot maps to. -/
theorem State.captureWrite_of_map {s : State} {w slot lane line : Nat} {rec : WindowRecord} {d : WriteData} {f : Int}
    (hmap : mapFrame ((s.sess.window w).reference.getD s.ft.reference) rec.slots (s.sess.window w).anchor slot = f) :
    s.captureWrite w rec ⟨slot, lane, line⟩ d
      = if f < 0 ∨ (4294967295 : Int) < f then s.strayWrite w slot
        else (s.setSess (s.sess.modifyWindow w (Window.refer f.toNat))).captureMapped w rec ⟨slot, lane, line⟩ f.toNat d := by
  rw [State.captureWrite_eq]
  simp only [hmap]
  rfl

end Sys2Proof.Machine
end

section
/-! The row of a capture write, by the number that its slot maps to. -/

namespace Sys2Proof.Machine
open Sys2Proof.Spec

/-! ### A write mapped to a number (R16) -/

theorem State.captureMapped_of_closed {s : State} {g : Nat} (h : g < nextNumber s) (w slot lane line : Nat)
    (rec : WindowRecord) (d : WriteData) :
    s.captureMapped w rec ⟨slot, lane, line⟩ g d = s.lateWrite w slot g :=
  if_pos (decide_eq_true (by rwa [ft_nextNumber_eq]))

theorem State.captureMapped_of_held {s : State} {g : Nat} (h : nextNumber s ≤ g) (hheld : (s.ft.find g).isSome = true)
    (w slot lane line : Nat) (rec : WindowRecord) (d : WriteData) :
    s.captureMapped w rec ⟨slot, lane, line⟩ g d = s.assemble rec.format ⟨w, lane⟩ g line d := by
  have hopen : ¬ s.ft.isClosed g = true := by
    rw [FrameTable.isClosed, decide_eq_true_iff, ft_nextNumber_eq]
    exact Nat.not_lt.2 h
  rw [State.captureMapped, if_neg hopen, if_pos hheld]

theorem State.captureMapped_of_awaited {s : State} {g : Nat} (h : s.Awaits g)
    (w slot lane line : Nat) (rec : WindowRecord) (d : WriteData) :
    s.captureMapped w rec ⟨slot, lane, line⟩ g d = (s.openFor g).assemble rec.format ⟨w, lane⟩ g line d := by
  have hopen : ¬ s.ft.isClosed g = true := by
    rw [FrameTable.isClosed, decide_eq_true_iff, ft_nextNumber_eq]
    exact Nat.not_lt.2 h.1
  rw [State.captureMapped, if_neg hopen, if_neg (by simp [h.2])]

/-! ### The open that a write makes (R8, R16) -/

/-- The surroundings of the part once the head request has been forwarded. -/
def forwardedSurroundings (s : State) (r : Passing) : Surroundings := ⟨(forwarded s r).path, (forwarded s r).ports, 0, id⟩

theorem State.within_forwardedSurroundings (s t : State) (r : Passing) :
    t.within (forwardedSurroundings s r)
      = { t with path := (forwarded s r).path, ports := (forwarded s r).ports } := by
  have hsame : Window.remirror id = id := by
    funext x
    obtain ⟨record⟩ := x
    cases record <;> rfl
  have hwindows : (forwardedSurroundings s r).windows t.sess.windows = t.sess.windows := by
    rw [Surroundings.windows, forwardedSurroundings, hsame, List.modify_id]
  rw [State.within, hwindows]
  rfl

theorem forwarded_eq_within {s t : State} (hpath : t.path = s.path) (hstraps : t.straps = s.straps) (r : Passing) :
    forwarded t r = t.within (forwardedSurroundings s r) := by
  rw [State.within_forwardedSurroundings, forwarded, forwarded, hpath, hstraps]

theorem State.ticked_of_timer {s : State} (h : s.sess.state = .running → s.sess.timer = some (fullStall s)) :
    s.ticked = s := by
  have htimer : (if s.sess.state = .running then some (fullStall s) else s.sess.timer) = s.sess.timer := by
    split
    · next hrunning => exact (h hrunning).symm
    · rfl
  rw [State.ticked, htimer]

/-- What a write that finds its frame held leaves of the session is what it finds, once the reference has moved. -/
theorem State.setSess_refer {s : State} {w g : Nat} {y : Window} (hy : s.sess.windows[w]? = some y)
    (hreference : ∃ q, y.reference = some q ∧ g ≤ q) : s.setSess (s.sess.modifyWindow w (Window.refer g)) = s := by
  obtain ⟨q, hq, hle⟩ := hreference
  have hsame : y.refer g = y := by
    rw [Window.refer, hq, Option.getD_some, max_eq_left hle, ← hq]
  obtain ⟨hlt, hget⟩ := List.getElem?_eq_some_iff.1 hy
  have hwindows : s.sess.windows.modify w (Window.refer g) = s.sess.windows := by
    rw [modify_eq_set_of_getElem? _ hy, hsame, ← hget, List.set_getElem_self]
  rw [SessionControl.modifyWindow, hwindows]
  rfl

theorem State.openFor_eq (s : State) (g : Nat) :
    s.openFor g
      = if s.sess.state = .armed then
          { s.openFrame g with
            sess := { (s.openFrame g).sess with state := .running, timer := some (fullStall (s.openFrame g)) }
            rw := filed (s.openFrame g).rw ⟨.sessionState, 0, some g, 2, 1⟩ }
        else s.openFrame g := by
  rw [State.openFor, State.enterRunning, State.file_eq_filed, SessionControl.stallTime_eq]
  exact if_congr beq_iff_eq rfl rfl

/-- What the open that a write makes keeps, and leaves of the session. -/
theorem State.openFor_spec {s : State} (g : Nat) (hstate : s.sess.state = .armed ∨ s.sess.state = .running)
    (htimer : s.sess.state = .running → s.sess.timer = some (fullStall s)) :
    let t := s.openFor g
    t.bearings = s.bearings
      ∧ (t.path = s.path ∧ t.straps = s.straps ∧ t.report = s.report ∧ t.sess.record = s.sess.record
        ∧ t.aw.area = s.aw.area ∧ t.tracks.map Track.record = s.tracks.map Track.record)
      ∧ (t.sess.state = .running ∧ t.sess.timer = some (fullStall t)) ∧ t.ft = (s.openFrame g).ft := by
  intro t
  have hfooting := s.openFrame_footing g
  simp only [State.footing, Prod.mk.injEq] at hfooting
  obtain ⟨hpath, hstraps, hreport, hopened, hrecord, htime, harea, htracks⟩ := hfooting
  have hbearings := s.openFrame_bearings g
  rcases hstate with hs | hs
  · have ht : t = _ := (s.openFor_eq g).trans (if_pos hs)
    rw [ht]
    exact ⟨hbearings, ⟨hpath, hstraps, hreport, hrecord, harea, htracks⟩, ⟨rfl, rfl⟩, rfl⟩
  · have ht : t = s.openFrame g := (s.openFor_eq g).trans (if_neg (by simp [hs]))
    rw [ht]
    refine ⟨hbearings, ⟨hpath, hstraps, hreport, hrecord, harea, htracks⟩, ⟨hopened.trans hs, ?_⟩, rfl⟩
    rw [htime, htimer hs, fullStall, fullStall, hrecord]

/-- R16, case 3: the write does what it would do had its frame just opened. -/
theorem exec_of_opened {s : State} {r : Passing} {d : WriteData} {w : Nat} {rec : WindowRecord}
    {slot lane line g : Nat} {x : Window} (h : TakesWindowWrite s r d w rec slot lane line) (hmirror : rec.mirror = none)
    (hlane : isSourceLane s.tracks ⟨w, lane⟩ = true) (hstate : s.sess.state = .armed ∨ s.sess.state = .running)
    (hx : s.sess.windows[w]? = some (x.refer g)) (hanchored : x.anchored = true)
    (hmap : mapFrame (max (x.reference.getD 0) g) rec.slots x.anchor slot = g) (hlast : g ≤ 4294967295)
    (htimer : s.sess.state = .running → s.sess.timer = some (fullStall s)) (hawaits : s.Awaits g)
    (hlateness : 1 ≤ s.sess.lateness)
    (houtside : ∀ a ∈ s.aw.area, r.addr < a.base ∨ a.base + a.count * (a.sizeMiB * 1048576) ≤ r.addr) :
    exec .passingRequestTake (s.openFor g)
      = .next (((s.openFor g).within (forwardedSurroundings s r)).assemble rec.format ⟨w, lane⟩ g line d) := by
  obtain ⟨hbearings, ⟨hpath, hstraps, hreport, hrecord, harea, htracks⟩, ⟨hrunning, htime⟩, hft⟩ :=
    s.openFor_spec g hstate htimer
  obtain ⟨hnext, hheld⟩ := hawaits.openFrame hlateness
  have hguards : (s.openFor g).aw.guards r.addr = none := ArchiveWriter.guards_of_outside (by rwa [harea])
  have h' : TakesWindowWrite (s.openFor g) r d w rec slot lane line :=
    takesWindowWrite_of_same h hpath hstraps hreport (fun hdrain => nomatch hrunning.symm.trans hdrain) hguards hrecord
      (State.records_of_bearings hbearings)
  have hlane' : isSourceLane (s.openFor g).tracks ⟨w, lane⟩ = true := by
    rw [isSourceLane_of_records htracks, hlane]
  obtain ⟨y, hy, hbearing⟩ : ∃ y, (s.openFor g).sess.windows[w]? = some y ∧ y.bearing = (x.refer g).bearing := by
    have hat := congrArg (fun l => l[w]?) hbearings
    simpa [State.bearings, hx] using hat
  simp only [Window.bearing, Window.refer, Prod.mk.injEq] at hbearing
  obtain ⟨-, hanchor, hreference, hanchored'⟩ := hbearing
  have hwindow := SessionControl.window_of_getElem? hy
  have hmap' : mapFrame (((s.openFor g).sess.window w).reference.getD (s.openFor g).ft.reference) rec.slots
      ((s.openFor g).sess.window w).anchor slot = g := by
    rw [hwindow, hreference, hanchor, Option.getD_some, hmap]
  have hforwarded : (forwarded (s.openFor g) r).ticked = (s.openFor g).within (forwardedSurroundings s r) := by
    rw [State.ticked_of_timer (s := forwarded (s.openFor g) r) fun _ => htime, forwarded_eq_within hpath hstraps]
  have hy' : (forwarded (s.openFor g) r).ticked.sess.windows[w]? = some y := hy
  rw [exec_captureWrite h' hmirror hlane' (.inr hrunning) (by rw [hwindow, hanchored', hanchored]),
    State.captureWrite_of_map (s := (forwarded (s.openFor g) r).ticked) hmap', if_neg (by omega), Int.toNat_natCast,
    State.setSess_refer hy' ⟨_, hreference, le_max_right _ _⟩, hforwarded]
  refine congrArg _ (State.captureMapped_of_held (s := (s.openFor g).within (forwardedSurroundings s r)) ?_ ?_ ..)
  · rw [← ft_nextNumber_eq]
    show (s.openFor g).ft.nextNumber ≤ g
    rw [hft]
    exact hnext
  · show ((s.openFor g).ft.find g).isSome = true
    rw [hft, hheld]

/-- Settles O41: the number that the slot maps to decides, and each case is one of the lemmas above. -/
theorem captureWriteIsAssembled : Obligations.CaptureWriteIsAssembled := by
  unfold Obligations.CaptureWriteIsAssembled
  refine ⟨?_, ?_⟩
  swap
  · intro s g oldest
    refine ⟨State.openFrame_of_late, fun hnear => ⟨fun f => State.openFrame_of_due hnear, ?_⟩⟩
    intro hnone new
    exact (State.openFrame_of_none hnear hnone).trans (s.insertNew_eq g)
  intro s r d w rec slot lane line h hmirror hnames heven src x reference control stray
  have hlane : isSourceLane s.tracks ⟨w, lane⟩ = true := (isSourceLane_iff _ _).2 hnames
  have hx : s.sess.windows[w]? = some x := by
    obtain ⟨x', hx', -⟩ := SessionControl.getElem?_of_window h.record
    rw [hx', show x = x' from SessionControl.window_of_getElem? hx']
  have hstray : (forwarded s r).ticked.strayWrite w slot = stray := by
    rw [State.strayWrite_eq (s := (forwarded s r).ticked) hx]
    rfl
  refine ⟨fun hstate hlast => ?_, fun f hstate hanchored hresidue hlow hhigh => ?_⟩
  · have hstill : (forwarded s r).ticked = forwarded s r :=
      State.ticked_of_timer (s := forwarded s r) fun hrunning => nomatch hstate.symm.trans hrunning
    rw [exec_takesWindowWrite h hmirror, State.windowWrite_of_used_up (s := forwarded s r) w rec _ d hstate hlast]
    refine congrArg _ ((if_pos hlane).trans ?_)
    rw [← hstray, hstill]
  have hmap : mapFrame reference rec.slots x.anchor slot = f := mapFrame_eq heven hresidue hlow hhigh
  have hexec := exec_captureWrite h hmirror hlane hstate hanchored
  rw [State.captureWrite_of_map (s := (forwarded s r).ticked) hmap] at hexec
  refine ⟨fun hout => by rw [hexec, if_pos hout, hstray], ?_⟩
  rintro g rfl hg refer u count
  have hmapped : exec .passingRequestTake s = .next (u.captureMapped w rec ⟨slot, lane, line⟩ g d) := by
    rw [if_neg (by omega), Int.toNat_natCast] at hexec
    exact hexec
  have hwindow : u.sess.windows[w]? = some (refer x) := by
    show (s.sess.windows.modify w refer)[w]? = some (refer x)
    rw [List.getElem?_modify_eq, hx]
    rfl
  have hwindows : ∀ next : Window → Window,
      u.sess.windows.modify w next = s.sess.windows.modify w fun y => next (refer y) := fun next =>
    List.modify_modify_eq _ _ _ _
  refine ⟨fun hclosed => ?_, ?_, ?_⟩
  · rw [hmapped, State.captureMapped_of_closed (s := u) hclosed, State.lateWrite_eq hwindow, hwindows]
    rfl
  · intro hnext hnone hlateness houtside o
    let t : State := { s with sess := control refer }
    have ht : TakesWindowWrite t r d w rec slot lane line := takesWindowWrite_of_same h rfl rfl rfl
      (fun hdrain => by rcases hstate with hs | hs <;> exact nomatch hs.symm.trans hdrain) h.unguarded rfl
      (State.records_of_modify rfl fun _ => rfl)
    have hawaits : t.Awaits g := ⟨hnext, hnone⟩
    have hmoved : mapFrame (max (x.reference.getD 0) g) rec.slots x.anchor slot = g := by
      have hslot := h.within.1
      have hnear : x.reference.getD 0 < g + rec.slots / 2 := by
        have hlow' : reference < g + rec.slots / 2 := by exact_mod_cast hlow
        cases hr : x.reference with
        | none => rw [Option.getD_none]; omega
        | some q => simpa [reference, hr] using hlow'
      exact mapFrame_eq heven hresidue (by omega) (by omega)
    have hopened := exec_of_opened ht hmirror hlane hstate hwindow hanchored hmoved hg
      (fun hrunning => if_pos hrunning) hawaits hlateness houtside
    have hstall : fullStall o = fullStall s := by
      have hfooting := t.openFrame_footing g
      simp only [State.footing, Prod.mk.injEq] at hfooting
      rw [fullStall, fullStall, hfooting.2.2.2.2.1]
    have hu : u = t.within (forwardedSurroundings s r) := (State.within_forwardedSurroundings s t r).symm
    rw [hmapped, hu, State.within_captureMapped, State.captureMapped_of_awaited hawaits, ← State.within_assemble, ← hstall]
    exact hopened.symm.trans (congrArg _ (State.openFor_eq t g))
  · intro f hnext hf copied keyed blank
    have hheld : (u.ft.find g).isSome = true := by rw [show u.ft.find g = some f from hf]; rfl
    rw [State.captureMapped_of_held (s := u) hnext hheld] at hmapped
    refine ⟨fun hcompleted => ?_, fun hcompleted hfailed => ?_, fun hcompleted hfailed => ⟨fun b hb => ?_,
      fun hnobuffer hroom => ?_, fun hnobuffer hfull => ?_⟩⟩
    · rw [hmapped, State.assemble_of_completed (s := u) hf rec.format line d hcompleted]
      exact congrArg _ (congrArg (fun ws => ({ u with sess := { u.sess with windows := ws } } : State)) (hwindows _))
    · rw [hmapped, State.assemble_of_failed (s := u) hf rec.format line d hcompleted hfailed]
    · have hkeyed : keyed b = true := List.find?_some hb
      obtain ⟨hbw, hbl, hbg⟩ := of_decide_eq_true hkeyed
      rw [hmapped, State.assemble_of_buffer (s := u) hf rec.format line d hcompleted hfailed hb]
      refine ⟨fun hopen => ?_, ?_⟩
      · have hany : u.buffers.any (hasKey b.window b.lane b.frame) = true := by
          rw [hbw, hbl, hbg]
          exact List.any_eq_true.2 ⟨b, List.mem_of_find?_eq_some hb, hkeyed⟩
        rw [State.keepBuffer_of_kept (s := u) hopen, if_pos hany, hbw, hbl, hbg]
        rfl
      · intro hall bytes hbytes
        have hsamples := samplesOf_eq rec.format s.sess.blockSize bytes hbytes
        rw [State.keepBuffer_of_full (s := u) hall]
        simp only [hbw, hbl, hbg, hwindows]
        rw [← hsamples]
        rfl
    · have hno : u.buffers.any (hasKey w lane g) = false :=
        List.any_eq_false.2 fun y hy => List.find?_eq_none.1 hnobuffer y hy
      rw [hmapped, State.assemble_of_no_buffer (s := u) hf rec.format line d hcompleted hfailed hnobuffer,
        if_pos (show u.buffers.length < 256 from hroom),
        State.keepBuffer_of_kept (s := u) (exists_unmarked d h.block h.within.2.2)]
      exact congrArg _ (congrArg (fun bs => ({ u with buffers := bs } : State)) (if_neg (ne_true_of_eq_false hno)))
    · rw [hmapped, State.assemble_of_no_buffer (s := u) hf rec.format line d hcompleted hfailed hnobuffer,
        if_neg (show ¬ u.buffers.length < 256 from Nat.not_lt.2 hfull), State.exhaust_eq hwindow, hwindows]
      cases f.exhausted <;> rfl

end Sys2Proof.Machine
end

section
/-! The Stream Writer's take of a closed frame, and the report of a stream header line. -/

namespace Sys2Proof.Machine
open Sys2Proof.Spec

/-! ### Lines and headers, byte by byte -/

theorem padTo_eq_map (n : Nat) (bytes : List Byte) : padTo n bytes = (List.range n).map fun i => bytes.getD i 0 := by
  refine List.ext_getElem (by simp [padTo]; omega) fun i hi hi' => ?_
  have hin : i < n := by simpa using hi'
  simp only [padTo, List.getElem_map, List.getElem_range, List.getElem_append, List.getElem_take,
    List.getElem_replicate, List.length_take, List.getD_eq_getElem?_getD]
  by_cases hlt : i < bytes.length
  · rw [dif_pos (by omega), List.getElem?_eq_getElem hlt, Option.getD_some]
  · rw [dif_neg (by omega), List.getElem?_eq_none (by omega), Option.getD_none]

theorem lineAt_eq_map (bytes : List Byte) (offset : Nat) :
    lineAt bytes offset = (List.range 64).map fun i => bytes.getD (offset + i) 0 := by
  rw [lineAt, padTo_eq_map]
  refine List.map_congr_left fun i _ => ?_
  rw [List.getD_eq_getElem?_getD, List.getD_eq_getElem?_getD, List.getElem?_drop]

theorem cutLines_eq_map (bytes : List Byte) :
    cutLines bytes = (List.range ((bytes.length + 63) / 64)).map fun j =>
      (List.range 64).map fun i => bytes.getD (64 * j + i) 0 := by
  simp only [cutLines, lineAt_eq_map]

theorem payloadBytes_eq (b : StreamBody) (n : Nat) :
    b.payloadBytes n = n * b.busCount.toNat * (if b.width = 0 then 2 else 4) := by
  simp only [StreamBody.payloadBytes, StreamBody.sampleBytes, beq_iff_eq]

theorem streamOrder_eq (n : Nat) (b : StreamBody) (final : List FinalBus) :
    streamOrder n b final
      = (List.range n).flatMap fun n => b.busList.map fun k =>
        (final[k]?.map fun y => (y.values.getD n 0, y.gains.getD n 0)).getD (0, 0) := by
  unfold streamOrder
  refine List.flatMap_congr fun n _ => List.map_congr_left fun k _ => ?_
  cases final[k]? <;> rfl

theorem streamFlags_eq (f : Frame) (b : StreamBody) (final : List FinalBus) :
    streamFlags f b final
      = (if f.discontinuity then 1 else 0) + (if f.absent.getD 0 = 0 then 0 else 2)
        + (if ∃ y ∈ b.busList.filterMap fun k => final[k]?, y.endGain = 0 then 4 else 0)
        + (if ∃ y ∈ b.busList.filterMap fun k => final[k]?, y.saturated = true then 8 else 0) := by
  simp only [streamFlags, List.any_eq_true, beq_iff_eq]

/-- R176: the header line, its fields one behind the other. -/
theorem streamHeader_eq (info : FrameInfo) (f : Frame) (k : Nat) (b : StreamBody) (final : List FinalBus) :
    streamHeader info f k b final
      = (List.range 64).map fun i =>
        ([0x5A, 0x4B, 0x53, 0x46] ++ leBytes 1 k ++ [b.width, b.busCount] ++ leBytes 1 (streamFlags f b final)
          ++ leBytes 4 info.serial ++ leBytes 4 f.number ++ leBytes 2 info.blockSize ++ leBytes 1 info.rateCode ++ [0]
          ++ leBytes 2 (f.absent.getD 0) ++ [0, 0] ++ leBytes 4 (b.payloadBytes info.blockSize)
          ++ ((List.range 8).map fun i => BitVec.ofNat 8 (b.busList.getD i 0))).getD i 0 := by
  have hbuses : padTo 8 (b.busList.map fun x => BitVec.ofNat 8 x)
      = (List.range 8).map fun i => BitVec.ofNat 8 (b.busList.getD i 0) := by
    rw [padTo_eq_map]
    refine List.map_congr_left fun i _ => ?_
    rw [List.getD_eq_getElem?_getD, List.getD_eq_getElem?_getD, List.getElem?_map]
    cases b.busList[i]? <;> rfl
  have hpair : ∀ l : List Byte, l ++ [b.width] ++ [b.busCount] = l ++ [b.width, b.busCount] := fun l => by simp
  rw [streamHeader, hbuses, hpair, padTo_eq_map]
  rfl

/-! ### What a take does to a slot (R118 to R121) -/

theorem Stream.slotCase_eq (x : Stream) (b : StreamBody) : x.slotCase b = slotRule x b := by
  have hcurrent : x.currentSlot = x.slots.getD x.writePosition ⟨.free, [], false⟩ := rfl
  rw [Stream.slotCase, slotRule, hcurrent]
  cases (x.slots.getD x.writePosition ⟨.free, [], false⟩).state with
  | free => rfl
  | filling => rfl
  | filled => exact if_congr beq_iff_eq rfl rfl

/-- The kind of the record that a slot rule files, if it files one. -/
def ruleKind : SlotCase → Option RecordKind
  | .fill => none
  | .overwrite => some .streamOverwrite
  | .drop => some .streamDrop
  | .late => some .streamLate

theorem Stream.slotRecords_kind (x : Stream) (b : StreamBody) (k g : Nat) :
    (x.slotRecords b k g).map Record.kind = (ruleKind (slotRule x b)).toList := by
  rw [Stream.slotRecords, Stream.slotCase_eq]
  cases slotRule x b <;> rfl

/-- The kinds of record in `seen` are those that the slot rules of the streams `before` file. -/
def SeenBy (before : List Stream) (seen : List RecordKind) : Prop :=
  ∀ rule kind, ruleKind rule = some kind →
    (kind ∈ seen ↔ ∃ z ∈ before, ∃ e, z.enabledRecord = some e ∧ slotRule z e = rule)

/-- No stream before applies the same slot rule to the frame. -/
def isFirst (before : List Stream) (x : Stream) (b : StreamBody) : Bool :=
  before.all fun z => z.enabledRecord.all fun e => slotRule z e != slotRule x b

theorem ruleKind_inj {a b : SlotCase} (ha : ruleKind a ≠ none) (h : ruleKind b = ruleKind a) : b = a := by
  cases a <;> cases b <;> simp [ruleKind] at ha h ⊢

theorem isFirst_iff {before : List Stream} {seen : List RecordKind} (h : SeenBy before seen) {x : Stream} {b : StreamBody}
    {kind : RecordKind} (hkind : ruleKind (slotRule x b) = some kind) : isFirst before x b = true ↔ kind ∉ seen := by
  rw [h _ kind hkind, isFirst]
  simp only [List.all_eq_true, Option.all_eq_true, bne_iff_ne, not_exists, not_and]

/-- Of the records that the slot rule of a stream asks for, the first of a kind is filed. -/
theorem Stream.slotRecords_filter {before : List Stream} {seen : List RecordKind} (h : SeenBy before seen) (x : Stream)
    (b : StreamBody) (k g : Nat) :
    (x.slotRecords b k g).filter (fun r => !seen.contains r.kind)
      = if isFirst before x b then x.slotRecords b k g else [] := by
  have hkinds := x.slotRecords_kind b k g
  cases hkind : ruleKind (slotRule x b) with
  | none =>
    rw [hkind, Option.toList_none, List.map_eq_nil_iff] at hkinds
    rw [hkinds, ite_self]
    rfl
  | some kind =>
    rw [hkind, Option.toList_some, List.map_eq_singleton_iff] at hkinds
    obtain ⟨r, hrecords, hr⟩ := hkinds
    have hfirst := isFirst_iff h hkind
    rw [hrecords]
    by_cases hk : kind ∈ seen
    · have hlater : isFirst before x b = false := by rwa [Bool.eq_false_iff, Ne, hfirst, not_not]
      simp [hr, hk, hlater]
    · simp [hr, hk, hfirst.2 hk]

/-- R117: an enabled stream after the take of a frame, before the stale count. -/
def Stream.afterSlot (info : FrameInfo) (f : Frame) (final : List FinalBus) (x : Stream) (b : StreamBody) : Stream :=
  { x.takeSlot b f.concealed with
    generator := (streamPayload b (streamOrder info.blockSize b final) x.generator).2 }

/-- R117: a stream after the take of a frame. -/
def Stream.afterTake (info : FrameInfo) (f : Frame) (final : List FinalBus) (x : Stream) : Stream :=
  (x.enabledRecord.map fun b => (x.afterSlot info f final b).stale b).getD x

/-- R117: the stream frame that joins the output list. -/
def Stream.taken (info : FrameInfo) (f : Frame) (final : List FinalBus) (k : Nat) (x : Stream) : List StreamOut :=
  x.enabledRecord.toList.flatMap fun b =>
    if slotRule x b = .fill ∨ slotRule x b = .overwrite then
      [⟨k, x.writePosition, f.number, b.base.toNat + x.writePosition * b.slotSize info.blockSize, 1,
        cutLines (streamPayload b (streamOrder info.blockSize b final) x.generator).1, streamHeader info f k b final⟩]
    else []

/-- The records of the take of a stream; `before` are the streams of lower numbers. -/
def Stream.takeRecords (info : FrameInfo) (f : Frame) (final : List FinalBus) (before : List Stream) (k : Nat)
    (x : Stream) : List Record :=
  x.enabledRecord.toList.flatMap fun b =>
    (if isFirst before x b then x.slotRecords b k f.number else [])
      ++ (x.afterSlot info f final b).staleRecords b k f.number

/-- The take of one stream, enabled or not. -/
def takeOne (info : FrameInfo) (f : Frame) (final : List FinalBus) (k : Nat) (seen : List RecordKind) (x : Stream) :
    StreamTake :=
  match x.enabledRecord with
  | some b => takeStream info f final k seen x b
  | none => ⟨[x], [], []⟩

theorem takeStreams_cons (info : FrameInfo) (f : Frame) (final : List FinalBus) (k : Nat) (seen : List RecordKind)
    (x : Stream) (xs : List Stream) :
    takeStreams info f final k seen (x :: xs)
      = let one := takeOne info f final k seen x
        let more := takeStreams info f final (k + 1) (seen ++ one.records.map fun r => r.kind) xs
        ⟨one.streams ++ more.streams, one.out ++ more.out, one.records ++ more.records⟩ := rfl

section take

variable (info : FrameInfo) (f : Frame) (final : List FinalBus) {before : List Stream} {seen : List RecordKind}
  (h : SeenBy before seen)
include h

theorem takeOne_eq (k : Nat) (x : Stream) :
    takeOne info f final k seen x
      = ⟨[x.afterTake info f final], x.taken info f final k, x.takeRecords info f final before k⟩ := by
  have hstarts : ∀ b, (x.slotCase b == .fill || x.slotCase b == .overwrite) = true
      ↔ slotRule x b = .fill ∨ slotRule x b = .overwrite := fun b => by
    rw [Stream.slotCase_eq, Bool.or_eq_true, beq_iff_eq, beq_iff_eq]
  unfold takeOne Stream.afterTake Stream.taken Stream.takeRecords
  cases x.enabledRecord with
  | none => rfl
  | some b =>
    simp only [Option.map_some, Option.getD_some, Option.toList_some, List.flatMap_cons, List.flatMap_nil,
      List.append_nil]
    rw [takeStream, Stream.slotRecords_filter h, if_congr (hstarts b) rfl rfl]
    rfl

/-- Where a rule of a stream files a record, either that record is filed or its kind has been seen. -/
theorem SeenBy.next (k : Nat) (x : Stream) :
    SeenBy (before ++ [x]) (seen ++ (x.takeRecords info f final before k).map Record.kind) := by
  intro rule kind hkind
  cases hx : x.enabledRecord with
  | none => simp [Stream.takeRecords, hx, h rule kind hkind]
  | some b =>
    have hstale : ∀ r ∈ (x.afterSlot info f final b).staleRecords b k f.number, r.kind ≠ kind := by
      intro r hr hsame
      rw [Stream.staleRecords] at hr
      split at hr
      · rw [List.mem_singleton.1 hr] at hsame
        cases rule <;> simp [ruleKind, ← hsame] at hkind
      · exact absurd hr List.not_mem_nil
    have hmem : kind ∈ (x.takeRecords info f final before k).map Record.kind
        ↔ isFirst before x b = true ∧ ruleKind (slotRule x b) = some kind := by
      have hnone : kind ∉ ((x.afterSlot info f final b).staleRecords b k f.number).map Record.kind := fun hin => by
        obtain ⟨r, hr, hsame⟩ := List.mem_map.1 hin
        exact hstale r hr hsame
      rw [Stream.takeRecords, hx, Option.toList_some, List.flatMap_cons, List.flatMap_nil, List.append_nil,
        List.map_append, List.mem_append, or_iff_left hnone]
      split
      · next hfirst => simp [x.slotRecords_kind, hfirst]
      · next hlater => simp [hlater]
    have hrule : ruleKind (slotRule x b) = some kind ↔ slotRule x b = rule :=
      ⟨fun hk => ruleKind_inj (by rw [hkind]; exact Option.some_ne_none _) (hk.trans hkind.symm), fun hr => hr ▸ hkind⟩
    have hlast : (∃ z ∈ before ++ [x], ∃ e, z.enabledRecord = some e ∧ slotRule z e = rule)
        ↔ kind ∈ seen ∨ slotRule x b = rule := by
      rw [h rule kind hkind]
      simp [hx, or_and_right, exists_or]
    rw [List.mem_append, hmem, hlast, hrule]
    by_cases hr : slotRule x b = rule
    · have hfirst := isFirst_iff h (hrule.2 hr)
      simp only [hr, and_true, or_true, iff_true, hfirst]
      exact Classical.em _
    · simp [hr]

end take

/-- The take of the streams from number `before.length` on, stream by stream. -/
theorem takeStreams_eq (info : FrameInfo) (f : Frame) (final : List FinalBus) (before xs : List Stream)
    {seen : List RecordKind} (h : SeenBy before seen) :
    takeStreams info f final before.length seen xs
      = ⟨xs.map (Stream.afterTake info f final),
        (xs.zipIdx before.length).flatMap fun p => p.1.taken info f final p.2,
        (xs.zipIdx before.length).flatMap fun p =>
          p.1.takeRecords info f final ((before ++ xs).take p.2) p.2⟩ := by
  induction xs generalizing before seen with
  | nil => rfl
  | cons x xs ih =>
    have hmore := ih (before ++ [x]) (h.next info f final before.length x)
    rw [List.length_append, List.length_singleton, List.append_assoc, List.singleton_append] at hmore
    rw [takeStreams_cons, takeOne_eq info f final h]
    simp only [hmore, List.map_cons, List.zipIdx_cons, List.flatMap_cons, List.singleton_append, List.take_left]

/-! ### The slot decision of a take, rule by rule (R118 to R121) -/

section rules

variable {x : Stream} {b : StreamBody} (concealed : Bool)

theorem Stream.takeSlot_of_fill (h : slotRule x b = .fill) :
    x.takeSlot b concealed
      = { x with slots := x.slots.set x.writePosition ⟨.filling, [], concealed⟩, filled := satInc x.filled } := by
  rw [Stream.takeSlot, Stream.slotCase_eq, h]
  rfl

theorem Stream.takeSlot_of_overwrite (h : slotRule x b = .overwrite) :
    x.takeSlot b concealed
      = { x with
          slots := x.slots.set x.writePosition ⟨.filling, [], concealed⟩
          filled := satInc x.filled
          overwritten := satInc x.overwritten
          watermarkArmed := x.watermarkArmed || decide
            (((x.slots.set x.writePosition ⟨.filling, [], concealed⟩).filter fun q => q.state == .filled).length
              < b.watermark.toNat) } := by
  rw [Stream.takeSlot, Stream.slotCase_eq, h, ← List.countP_eq_length_filter]
  rfl

theorem Stream.takeSlot_of_drop (h : slotRule x b = .drop) :
    x.takeSlot b concealed = { x with dropped := satInc x.dropped } := by
  rw [Stream.takeSlot, Stream.slotCase_eq, h]

theorem Stream.takeSlot_of_late (h : slotRule x b = .late) :
    x.takeSlot b concealed = { x with late := satInc x.late } := by
  rw [Stream.takeSlot, Stream.slotCase_eq, h]

end rules

theorem Stream.filledCount_eq (x : Stream) : x.filledCount = (x.slots.filter fun q => q.state == .filled).length :=
  List.countP_eq_length_filter

/-! ### The report of a header line (R122, R125) -/

theorem Stream.slotFilled_eq {x : Stream} {slot : Nat} {q : Slot} (hq : x.slots[slot]? = some q) (b : StreamBody)
    (k g : Nat) :
    let slots := x.slots.set slot { q with state := .filled }
    let count := (slots.filter fun y => y.state == .filled).length
    let due := x.watermarkArmed = true ∧ b.watermark.toNat ≤ count
    x.slotFilled b slot
        = { x with
            slots := slots
            writePosition := if x.writePosition + 1 < b.slotCount.toNat then x.writePosition + 1 else 0
            watermarkArmed := if due then false else x.watermarkArmed }
      ∧ x.watermarkRecords b k slot g
        = if due then [⟨.streamWatermark, k, some g, count, b.watermark.toNat⟩] else [] := by
  intro slots count due
  have hfill : x.fillSlot slot = { x with slots := slots } := by
    rw [Stream.fillSlot, modify_eq_set_of_getElem? _ hq]
  have hcount : (x.fillSlot slot).filledCount = count := by rw [hfill, Stream.filledCount_eq]
  have hdue : (x.fillSlot slot).watermarkDue b = true ↔ due := by
    rw [Stream.watermarkDue, hcount, Bool.and_eq_true, decide_eq_true_iff, and_comm, hfill]
  have harmed : ((x.fillSlot slot).watermarkArmed && !(x.fillSlot slot).watermarkDue b)
      = if due then false else x.watermarkArmed := by
    by_cases hd : due
    · rw [if_pos hd, hdue.2 hd, Bool.not_true, Bool.and_false]
    · rw [if_neg hd, Bool.eq_false_iff.2 (mt hdue.1 hd), hfill, Bool.not_false, Bool.and_true]
  constructor
  · rw [Stream.slotFilled]
    simp only [harmed]
    rw [hfill]
  · rw [Stream.watermarkRecords, if_congr hdue rfl rfl, hcount]

/-- Settles O47: the row takes its own report; the take walks the streams, of which each files a record of a kind only
where no stream before it did. -/
theorem filledSlotAdvancesTheRing : Obligations.FilledSlotAdvancesTheRing := by
  unfold Obligations.FilledSlotAdvancesTheRing
  refine ⟨fun s => ?_, ?_⟩
  · have hexec : exec .slotFilled s = execSlotFilled s := rfl
    rw [hexec]
    unfold execSlotFilled
    constructor
    · intro k slot g x b q hreport hx hb henabled hq hfilling slots filledSlots due
      have hrecord : x.enabledRecord = some b := by
        rw [Stream.enabledRecord_eq, hb]
        exact if_pos henabled
      have hstream : s.sw.stream k = x := by
        rw [StreamWriter.stream, List.getD_eq_getElem?_getD, hx, Option.getD_some]
      have hslot : (x.slots.getD slot Slot.empty).state == .filling := by
        rw [List.getD_eq_getElem?_getD, hq, Option.getD_some, hfilling]
        rfl
      obtain ⟨hfilled, hrecords⟩ := Stream.slotFilled_eq hq b k g
      simp only [State.setPorts_report, hreport, State.takeReport, State.fillSlot, State.setReport_sw, State.setPorts_sw,
        hstream, hrecord, hslot, if_true]
      rw [State.fileAll_eq_filedAll, hrecords, StreamWriter.modifyStream, modify_eq_set_of_getElem? _ hx, hfilled]
      by_cases hd : due
      · rw [if_pos hd, if_pos hd, if_pos hd]
        rfl
      · rw [if_neg hd, if_neg hd, if_neg hd]
        rfl
    · intro hreport
      dsimp only
      split
      · next k slot g hfilled => exact absurd hfilled (hreport k slot g)
      · rfl
  · intro v info f final absent filledCount buses carried built payloadLength header takes age stale slotRecord first
    have hpayload : ∀ b : StreamBody, b.payloadBytes info.blockSize = payloadLength b := fun b =>
      payloadBytes_eq b _
    have hslot : ∀ b : StreamBody, b.slotSize info.blockSize = 64 + payloadLength b := fun b => by
      rw [StreamBody.slotSize, hpayload]
    have hbuilt : ∀ (x : Stream) (b : StreamBody),
        streamPayload b (streamOrder info.blockSize b final) x.generator = built x b := fun x b => by
      rw [streamOrder_eq]
      rfl
    have hheader : ∀ (k : Nat) (b : StreamBody), streamHeader info f k b final = header k b := fun k b => by
      rw [streamHeader_eq, streamFlags_eq, hpayload]
      rfl
    have htakes : ∀ (x : Stream) (b : StreamBody), x.afterSlot info f final b = takes x b := fun x b => by
      have hconcealed : f.concealed = decide (absent ≠ 0) := by
        rw [Frame.concealed, Bool.eq_iff_iff, bne_iff_ne, decide_eq_true_iff]
      rw [Stream.afterSlot, hbuilt, hconcealed]
      simp only [takes]
      cases h : slotRule x b with
      | fill => rw [Stream.takeSlot_of_fill _ h]
      | overwrite => rw [Stream.takeSlot_of_overwrite _ h]
      | drop => rw [Stream.takeSlot_of_drop _ h]
      | late => rw [Stream.takeSlot_of_late _ h]
    have hage : ∀ y : Stream, y.nextStale = age y := fun y => by
      rw [Stream.nextStale, Stream.filledCount_eq]
    have hstale : ∀ (y : Stream) (b : StreamBody), y.staleDue b = stale y b := fun y b => by
      rw [Stream.staleDue, hage, Stream.filledCount_eq]
      congr 1
      rw [Bool.eq_iff_iff, Bool.and_eq_true, bne_iff_ne, decide_eq_true_iff, decide_eq_true_iff]
    have hrecords : ∀ (k : Nat) (x : Stream) (b : StreamBody), x.slotRecords b k f.number = slotRecord k x b := by
      intro k x b
      rw [Stream.slotRecords, Stream.slotCase_eq]
      simp only [slotRecord]
      cases slotRule x b <;> rfl
    have hfirst : ∀ (k : Nat) (x : Stream) (b : StreamBody), isFirst (v.streams.take k) x b = first k x b :=
      fun k x b => rfl
    have hwalk := takeStreams_eq info f final [] v.streams (seen := []) fun rule kind _ => by simp
    rw [List.length_nil] at hwalk
    rw [StreamWriter.takeFrame, hwalk]
    refine Prod.ext (congrArg₂ StreamWriter.mk ?_ (congrArg _ ?_)) ?_
    · refine List.map_congr_left fun x _ => ?_
      rw [Stream.afterTake, show x.enabledRecord = enabledRecord x from rfl]
      cases enabledRecord x with
      | none => rfl
      | some b =>
        simp only [Option.map_some, Option.getD_some]
        rw [htakes, Stream.stale, hage, hstale]
    · refine List.flatMap_congr fun p _ => ?_
      obtain ⟨x, k⟩ := p
      refine List.flatMap_congr fun b _ => ?_
      simp only [hbuilt, cutLines_eq_map, hheader, hslot]
    · refine List.flatMap_congr fun p _ => ?_
      obtain ⟨x, k⟩ := p
      refine List.flatMap_congr fun b _ => ?_
      rw [List.nil_append, hfirst, hrecords, htakes, Stream.staleRecords, hstale, Stream.filledCount_eq]

end Sys2Proof.Machine
end

section
/-! The Archive Writer's take of a closed frame, and the lines of its output list on their way into the Archive queue. -/

namespace Sys2Proof.Machine
open Sys2Proof.Spec

/-! ### The lines of the output list (R102, R105) -/

theorem ArchiveWriter.entry_eq (w : ArchiveWriter) (g t : Nat) :
    w.entry g t = ((w.staging.find? fun e => e.frame == g && e.track == t).map StagedEntry.bytes).getD [] := by
  unfold ArchiveWriter.entry
  cases w.staging.find? fun e => e.frame == g && e.track == t <;> rfl

/-- The bytes of one part of an archive frame, byte by byte (R102). -/
theorem entryBytes_eq (w : ArchiveWriter) (g n t : Nat) :
    padTo n (w.entry g t)
      = (List.range n).map fun k =>
        (((w.staging.find? fun e => e.frame == g && e.track == t).map StagedEntry.bytes).getD []).getD k 0 := by
  rw [padTo_eq_map, ArchiveWriter.entry_eq]

theorem FrameItem.consumes_iff (i : FrameItem) (e : StagedEntry) :
    (e.frame == i.frame
        && (((stagedEnds 32 i.parts).filter fun x => decide (x.2 ≤ i.offset + 64)).map fun x => x.1).contains e.track)
      = decide (e.frame = i.frame ∧ ∃ x ∈ stagedEnds 32 i.parts, x.1 = e.track ∧ x.2 ≤ i.offset + 64) := by
  rw [Bool.eq_iff_iff]
  simp only [Bool.and_eq_true, beq_iff_eq, List.contains_iff_mem, List.mem_map, List.mem_filter, decide_eq_true_eq]
  refine and_congr_right fun _ => exists_congr fun x => ?_
  tauto

/-- The line of an archive frame that is last in its list of lines is the frame's end (R105). -/
theorem ArchiveWriter.headLine_frame {w : ArchiveWriter} {i : FrameItem} {rest : List ArchiveOut}
    (h : w.out = .frame i :: rest) :
    w.headLine
      = some ⟨i.addr + i.offset, lineAt (w.frameBytes i) i.offset,
        if i.length ≤ i.offset + 64 then .frameEnd i.segment i.frame i.count i.used else .frameLine⟩ := by
  rw [ArchiveWriter.headLine, h]
  by_cases hlast : i.length ≤ i.offset + 64
  · simp only [if_pos hlast, if_neg (Nat.not_lt.mpr hlast)]
  · simp only [if_neg hlast, if_pos (Nat.not_le.mp hlast)]

/-- The list moves on to the frame's next line, or past it; entries wholly consumed leave the staging store (R89). -/
theorem ArchiveWriter.dropHeadLine_frame {w : ArchiveWriter} {i : FrameItem} {rest : List ArchiveOut}
    (h : w.out = .frame i :: rest) :
    w.dropHeadLine
      = { w with
          staging := w.staging.filter fun e =>
            !decide (e.frame = i.frame ∧ ∃ x ∈ stagedEnds 32 i.parts, x.1 = e.track ∧ x.2 ≤ i.offset + 64)
          out := if i.length ≤ i.offset + 64 then rest else .frame { i with offset := i.offset + 64 } :: rest } := by
  rw [ArchiveWriter.dropHeadLine, h]
  simp only [FrameItem.consumes_iff]
  by_cases hlast : i.length ≤ i.offset + 64
  · simp only [if_pos hlast, if_neg (Nat.not_lt.mpr hlast)]
  · simp only [if_neg hlast, if_pos (Nat.not_le.mp hlast)]

/-- The next archive line enters its queue while that has room. -/
theorem State.enqueueArchiveLine_of_room {s : State} {l : ArchiveLine} (hline : s.aw.headLine = some l)
    (hroom : s.path.queues.archive.length < 64) :
    s.enqueueArchiveLine
      = { s with path := enqueued s.path .archive l.addr ⟨l.data, fullMask⟩ l.note, aw := s.aw.dropHeadLine } := by
  have hhas : s.path.hasRoom .archive = true := (PathUnit.hasRoom_iff _ _).mpr hroom
  simp only [State.enqueueArchiveLine, hline, hhas, if_true]
  rfl

theorem State.enqueueArchiveLine_idle {s : State} (h : 64 ≤ s.path.queues.archive.length ∨ s.aw.out = []) :
    s.enqueueArchiveLine = s := by
  unfold State.enqueueArchiveLine
  split
  · next l hline =>
    rcases h with hfull | hout
    · exact if_neg fun hroom => Nat.not_lt.mpr hfull ((PathUnit.hasRoom_iff s.path .archive).mp hroom)
    · rw [ArchiveWriter.headLine, hout] at hline
      cases hline
  · rfl

theorem exec_archiveLineEnqueue {s : State} (h : Settled s) :
    exec .archiveLineEnqueue s = .next (quiet s).enqueueArchiveLine :=
  congrArg (fun t : State => Host.Outcome.next t.enqueueArchiveLine) (State.ready_of_settled h)

/-! ### Placement (R103, R104) -/

theorem archiveHeader_eq (info : FrameInfo) (g : Nat) (marked pending : Bool) (entries absent length : Nat) :
    archiveHeader info g (marked || pending) entries absent length
      = [0x5A, 0x4B, 0x41, 0x46] ++ leBytes 4 g ++ leBytes 4 info.serial ++ leBytes 2 info.blockSize
        ++ leBytes 1 info.rateCode ++ [if marked = true ∨ pending = true then 1 else 0] ++ leBytes 2 entries
        ++ leBytes 2 absent ++ leBytes 4 length ++ List.replicate 8 0 := by
  have hflag : flagByte (marked || pending) = [if marked = true ∨ pending = true then 1 else 0] := by
    simp only [flagByte, Bool.or_eq_true]
  rw [archiveHeader, hflag, padTo_of_length_le (by simp)]
  simp

/-- R103, case 1: frame `g` with its header and parts, `length` bytes, at the write position of segment `n + 1`. -/
def ArchiveWriter.placed (y : ArchiveWriter) (a : Area) (g length : Nat) (header : List Byte) (parts : List EntryRef)
    (n : Nat) (x : Segment) : ArchiveWriter :=
  { y with
    segments := y.segments.set n { x with last := g, count := x.count + 1, used := x.used + length }
    out := y.out ++ [.frame
      ⟨g, n + 1, a.base + (n + 1) * (a.sizeMiB * 1048576) + x.used, length, 0, header, parts, x.count + 1,
        x.used + length⟩]
    pendingDiscontinuity := false
    counters :=
      { y.counters with
        placed := satInc y.counters.placed
        bytesPlaced := min (y.counters.bytesPlaced + length) 4294967295 } }

theorem ArchiveWriter.placeIn_succ {w : ArchiveWriter} {a : Area} {n : Nat} {x : Segment} (harea : w.area = some a)
    (hx : w.segments[n]? = some x) (info : FrameInfo) (f : Frame) (parts : List EntryRef) :
    w.placeIn info f parts (n + 1)
      = w.placed a f.number (frameLength parts)
          (archiveHeader info f.number (f.discontinuity || w.pendingDiscontinuity) parts.length (f.absent.getD 0)
            (frameLength parts)) parts n x := by
  simp only [ArchiveWriter.placeIn, harea, segment_succ, hx, modifySegment_succ,
    modify_eq_set_of_getElem? _ hx, ArchiveWriter.placed, Area.segmentBase, Area.segmentBytes, satAdd, maxCount]

/-- The entry of a segment that opens for frame `g` of session `serial` (R103). -/
def Segment.openedFor (x : Segment) (g serial : Nat) : Segment :=
  { x with
    state := .opened, settled := true, cause := .none, serial := serial, first := g, last := 0
    count := 0, used := 0, forwardedLast := 0, forwardedCount := 0, forwardedUsed := 0 }

/-- Segment `n + 1` takes entry `x` with the next update serial, and the record of it joins the output list (R101). -/
def ArchiveWriter.recorded (y : ArchiveWriter) (a : Area) (n : Nat) (x : Segment) : ArchiveWriter :=
  { y with
    segments := y.segments.set n { x with updateSerial := satInc y.updateSerial }
    updateSerial := satInc y.updateSerial
    out := y.out ++ [.directory (a.base + 64 * (n + 1)) (directoryRecord (n + 1) x (satInc y.updateSerial))
      (.directoryRecord (n + 1) x.state)] }

theorem ArchiveWriter.modifySegment_appendRecord {w : ArchiveWriter} {a : Area} {n : Nat} {x : Segment}
    (harea : w.area = some a) (hx : w.segments[n]? = some x) (g : Segment → Segment) :
    (w.modifySegment (n + 1) g).appendRecord (n + 1) = w.recorded a n (g x) := by
  have hlt : n < w.segments.length := (List.getElem?_eq_some_iff.mp hx).1
  have hrecord := ArchiveWriter.appendRecord_succ (w := { w with segments := w.segments.set n (g x) }) harea
    (List.getElem?_set_self hlt)
  rw [ArchiveWriter.modifySegment_succ, modify_eq_set_of_getElem? _ hx, hrecord]
  simp only [List.set_set]
  rfl

/-- R108: the warning once segment `n + 1` is open, and the counter of openings. -/
def ArchiveWriter.opening (y : ArchiveWriter) (a : Area) (n : Nat) (first : Segment) : ArchiveWriter :=
  let z := y.recorded a n first
  { z with
    full := false
    warning := if y.warning then decide (z.freeCount < a.high) else decide (z.freeCount ≤ a.low)
    counters := { y.counters with opened := satInc y.counters.opened } }

/-- R108: the record of the space warning with `free` FREE segments. -/
def ArchiveWriter.spaceRecords (y : ArchiveWriter) (a : Area) (newest : Option Nat) (free : Nat) : List Record :=
  if y.warning = true ∧ a.high ≤ free then [⟨.spaceOk, a.count, newest, free, a.high⟩]
  else if y.warning = false ∧ free ≤ a.low then [⟨.spaceLow, a.count, newest, free, a.low⟩]
  else []

theorem ArchiveWriter.warningRecords_eq {w : ArchiveWriter} {a : Area} (harea : w.area = some a)
    (newest : Option Nat) : w.warningRecords newest = w.spaceRecords a newest w.freeCount := by
  simp only [ArchiveWriter.warningRecords, harea, ArchiveWriter.spaceRecords]
  cases w.warning <;> simp

theorem ArchiveWriter.freeCount_eq_filter (w : ArchiveWriter) :
    w.freeCount = (w.segments.filter fun x => x.state == .free).length :=
  List.countP_eq_length_filter

/-- R103, case 3: the opening of FREE segment `n + 1`, the evaluation of the warning after it, and its record. -/
theorem ArchiveWriter.openAt_evaluateWarning {w : ArchiveWriter} {a : Area} {n : Nat} {x : Segment}
    (harea : w.area = some a) (hx : w.segments[n]? = some x) (g serial : Nat) (newest : Option Nat) :
    (w.openAt (n + 1) g serial).evaluateWarning = w.opening a n (x.openedFor g serial)
      ∧ (w.openAt (n + 1) g serial).warningRecords newest
        = w.spaceRecords a newest (w.recorded a n (x.openedFor g serial)).freeCount := by
  have hopen : w.openAt (n + 1) g serial
      = { w.recorded a n (x.openedFor g serial) with
          full := false, counters := { w.counters with opened := satInc w.counters.opened } } := by
    rw [ArchiveWriter.openAt, modifySegment_appendRecord harea hx]
    rfl
  have harea' : (w.openAt (n + 1) g serial).area = some a := hopen ▸ harea
  rw [evaluateWarning_of_area harea', warningRecords_eq harea', hopen]
  exact ⟨rfl, rfl⟩

/-- R104: a frame for which no segment is FREE. -/
def ArchiveWriter.refused (y : ArchiveWriter) (g : Nat) : ArchiveWriter :=
  { y with
    staging := y.staging.filter fun e => e.frame != g
    full := true
    pendingDiscontinuity := true
    counters := { y.counters with fullDrops := satInc y.counters.fullDrops } }

/-- R103, cases 3 and 4: with no segment OPEN the frame goes into the lowest FREE one, or is dropped. -/
theorem ArchiveWriter.placeFresh_of_free {w : ArchiveWriter} {a : Area} {n : Nat} (harea : w.area = some a)
    (hfree : (w.segments.findIdx? fun x => x.state == .free) = some n) (info : FrameInfo) (f : Frame)
    (parts : List EntryRef) (newest : Option Nat) :
    let first := (w.segments.getD n Segment.fresh).openedFor f.number info.serial
    w.placeFresh info f parts newest
      = ((w.opening a n first).placed a f.number (frameLength parts)
          (archiveHeader info f.number (f.discontinuity || w.pendingDiscontinuity) parts.length (f.absent.getD 0)
            (frameLength parts)) parts n { first with updateSerial := satInc w.updateSerial },
          w.spaceRecords a newest (w.recorded a n first).freeCount) := by
  intro first
  have hlt : n < w.segments.length := (List.findIdx?_eq_some_iff_getElem.mp hfree).1
  have hx : w.segments[n]? = some (w.segments.getD n Segment.fresh) := by
    rw [List.getD_eq_getElem _ _ hlt, List.getElem?_eq_getElem hlt]
  obtain ⟨hopening, hrecords⟩ := openAt_evaluateWarning harea hx f.number info.serial newest
  have hlowest : (w.lowest fun x => x.state == .free) = some (n + 1) := congrArg (Option.map (· + 1)) hfree
  have hentry : (w.opening a n first).segments[n]? = some { first with updateSerial := satInc w.updateSerial } :=
    List.getElem?_set_self hlt
  simp only [ArchiveWriter.placeFresh, hlowest]
  rw [hopening, hrecords, placeIn_succ (w := w.opening a n first) harea hentry]
  rfl

theorem ArchiveWriter.placeFresh_of_none_free {w : ArchiveWriter} {a : Area} (harea : w.area = some a)
    (hnone : (w.segments.findIdx? fun x => x.state == .free) = none) (info : FrameInfo) (f : Frame)
    (parts : List EntryRef) (newest : Option Nat) :
    w.placeFresh info f parts newest
      = (w.refused f.number,
          if w.full then [] else [⟨.archiveFull, a.count, some f.number, 0, satInc w.counters.fullDrops⟩]) := by
  have hlowest : (w.lowest fun x => x.state == .free) = none := congrArg (Option.map (· + 1)) hnone
  have hcount : w.freeCount = 0 :=
    List.countP_eq_zero.mpr fun x hx => by simp [List.findIdx?_eq_none_iff.mp hnone x hx]
  simp only [ArchiveWriter.placeFresh, hlowest, ArchiveWriter.fullRecords, harea, hcount]
  rfl

/-- The number of the one OPEN segment. -/
theorem ArchiveWriter.openSegment_of_unique {w : ArchiveWriter} {n : Nat} {x : Segment} (hx : w.segments[n]? = some x)
    (hopen : x.state = .opened)
    (hunique : ∀ m y, w.segments[m]? = some y → y.state = .opened → m = n) : w.openSegment = some (n + 1) := by
  cases h : w.openSegment with
  | none =>
    exact absurd hopen ((openSegment_eq_none_iff w).mp h x (List.mem_of_getElem? hx))
  | some k =>
    obtain ⟨m, y, rfl, hy, hyopen⟩ := openSegment_spec h
    rw [hunique m y hy hyopen]

theorem ArchiveWriter.takeFrame_of_archiving {w : ArchiveWriter} {f : Frame} (harchiving : w.archiving = true)
    (hdrop : f.drop = none) (info : FrameInfo) (newest : Option Nat) :
    w.takeFrame info f newest = w.place info f newest := by
  simp only [ArchiveWriter.takeFrame, harchiving, hdrop]
  rfl

theorem ArchiveWriter.place_of_no_open {w : ArchiveWriter} (h : w.openSegment = none) (info : FrameInfo) (f : Frame)
    (newest : Option Nat) : w.place info f newest = w.placeFresh info f (w.parts f) newest := by
  simp only [ArchiveWriter.place, h]

/-- R103, cases 1 and 2: with a segment OPEN the frame goes into it, or that segment rolls. -/
theorem ArchiveWriter.place_of_open {w : ArchiveWriter} {a : Area} {n : Nat} {x : Segment} (harea : w.area = some a)
    (hopen : w.openSegment = some (n + 1)) (hx : w.segments[n]? = some x) (info : FrameInfo) (f : Frame)
    (newest : Option Nat) :
    w.place info f newest
      = if x.used + frameLength (w.parts f) ≤ a.segmentBytes then (w.placeIn info f (w.parts f) (n + 1), [])
        else (w.closeAt (n + 1) .rolled).placeFresh info f (w.parts f) newest := by
  have hposition : w.writePosition = some x.used := by
    rw [ArchiveWriter.writePosition, hopen, Option.bind_some, segment_succ, hx, Option.map_some]
  simp only [ArchiveWriter.place, hopen, harea, hposition, Option.getD_some]

/-- What the archive frame of `f` holds of a track in the Release Order List (R102). -/
theorem ArchiveWriter.parts_eq (w : ArchiveWriter) (f : Frame) :
    w.parts f
      = w.releaseOrder.map fun t =>
        if (f.winner t).isSome then
          EntryRef.staged t
            (((w.staging.find? fun e => e.frame == f.number && e.track == t).map fun e => e.bytes.length).getD 0)
        else EntryRef.absent t := by
  refine List.map_congr_left fun t _ => ?_
  cases f.winner t with
  | none => rfl
  | some _ =>
    simp only [ArchiveWriter.entry_eq]
    cases w.staging.find? fun e => e.frame == f.number && e.track == t <;> rfl

/-- Settles O49: the lines of the output list by its head item, and the take of a frame by the four cases of R103. -/
theorem archiveLinesAreEnqueued : Obligations.ArchiveLinesAreEnqueued := by
  unfold Obligations.ArchiveLinesAreEnqueued
  refine ⟨fun s hsettled => ?_, fun v info f newest =>
    ⟨fun harchiving => ?_, fun mark harchiving hdrop => ?_, fun a harchiving hdrop harea => ?_⟩⟩
  · rw [exec_archiveLineEnqueue hsettled]
    refine ⟨fun hroom => ⟨fun addr data note rest hout => ?_, fun i rest hout => ?_⟩, fun hidle => ?_⟩
    · have hline : (quiet s).aw.headLine = some ⟨addr, data, note⟩ := by
        simp only [ArchiveWriter.headLine, hout]
      rw [State.enqueueArchiveLine_of_room hline hroom, ArchiveWriter.dropHeadLine, show (quiet s).aw.out = _ from hout]
    · intro bytes line gone last
      have hbytes : s.aw.frameBytes i = bytes := by
        refine congrArg (i.header ++ ·) (List.flatMap_congr fun p _ => ?_)
        cases p with
        | staged t n => exact entryBytes_eq s.aw i.frame n t
        | absent t => rfl
      rw [State.enqueueArchiveLine_of_room (ArchiveWriter.headLine_frame (w := (quiet s).aw) hout) hroom,
        ArchiveWriter.dropHeadLine_frame (w := (quiet s).aw) hout]
      rw [show (quiet s).aw = s.aw from rfl, hbytes, lineAt_eq_map]
    · exact congrArg Host.Outcome.next (State.enqueueArchiveLine_idle (s := quiet s) hidle)
  · simp only [ArchiveWriter.takeFrame, harchiving]
    rfl
  · simp only [ArchiveWriter.takeFrame, harchiving, hdrop]
    rfl
  · intro freeIn parts entries length header placed record fresh
    have hparts : v.parts f = parts := v.parts_eq f
    have hlength : frameLength parts = length := by
      refine congrArg (fun n => (32 + n + 63) / 64 * 64) (congrArg List.sum (List.map_congr_left fun p _ => ?_))
      cases p <;> rfl
    have hcount : parts.length = v.releaseOrder.length := List.length_map _
    have hheader : archiveHeader info f.number (f.discontinuity || v.pendingDiscontinuity) parts.length (f.absent.getD 0)
        (frameLength parts) = header := by
      rw [archiveHeader_eq, hcount, hlength]
    have hfresh (y : ArchiveWriter) (hyarea : y.area = some a)
        (hypending : y.pendingDiscontinuity = v.pendingDiscontinuity) :
        y.placeFresh info f parts newest = fresh y := by
      cases hfind : y.segments.findIdx? fun x => x.state == .free with
      | some n =>
        rw [ArchiveWriter.placeFresh_of_free hyarea hfind, hypending, hheader, hlength, ArchiveWriter.opening,
          ArchiveWriter.freeCount_eq_filter]
        simp only [fresh, hfind]
        rfl
      | none =>
        rw [ArchiveWriter.placeFresh_of_none_free hyarea hfind]
        simp only [fresh, hfind]
        rfl
    rw [ArchiveWriter.takeFrame_of_archiving harchiving hdrop]
    refine ⟨fun hnone => ?_, fun n x hx hopen hunique => ?_⟩
    · rw [ArchiveWriter.place_of_no_open ((ArchiveWriter.openSegment_eq_none_iff v).mpr hnone), hparts]
      exact hfresh v harea rfl
    · rw [ArchiveWriter.place_of_open harea (ArchiveWriter.openSegment_of_unique hx hopen hunique) hx, hparts, hlength]
      refine ⟨fun hfits => ?_, fun hover => ?_⟩
      · rw [if_pos (show _ ≤ a.segmentBytes from hfits), ArchiveWriter.placeIn_succ harea hx, hheader, hlength]
        rfl
      · rw [if_neg (Nat.not_le.mpr (show a.segmentBytes < _ from hover)), ArchiveWriter.closeAt_succ harea hx]
        exact hfresh _ harea rfl

end Sys2Proof.Machine
end

section
/-! A passing write to the Command Slot (R149): it is forwarded, and its enabled bytes are copied. -/

namespace Sys2Proof.Machine
open Sys2Proof.Spec

/-- R134: a write to line `line` of the Command Slot that lies in no window and no guarded segment is forwarded and
handed to the Command Unit alone. -/
theorem exec_commandSlotWrite {s : State} {r : Passing} {rest : List Passing} {d : WriteData} {line : Nat}
    (hsettled : Settled s) (hactive : s.straps.passOnly = false) (hforward : s.path.forward = r :: rest)
    (hgrant : GrantsPassing s.path) (hwrite : r.write = some d) (hline : line < 16)
    (haddr : r.addr = s.straps.baseSel.toNat * 16777216 + 64 * line) (hwindows : s.sess.windowsAt r.addr = [])
    (hguard : s.aw.guards r.addr = none) :
    exec .passingRequestTake s = .next ((forwarded s r).commandWrite runFunction line d) := by
  have hcommand : (forwarded s r).straps.commandSlot.contains r.addr = true := by
    refine (Straps.commandSlot_contains s r.addr).mpr ?_
    rw [InCommandSlot]
    omega
  have hresponse : ¬ InResponseSlot s r.addr := by
    rw [InResponseSlot]
    omega
  have hindex : (r.addr - (forwarded s r).straps.commandSlot.base) / 64 = line := by
    rw [show (forwarded s r).straps.commandSlot.base = s.straps.baseSel.toNat * 16777216 from rfl]
    omega
  have hnone : (forwarded s r).sess.windowsAt r.addr = [] := hwindows
  rw [exec_passingRequestTake hsettled hforward (.inr hgrant), State.takeHead_of_write hactive hwrite hresponse hguard,
    State.ownWrite, hnone, List.foldl_nil, if_pos hcommand, hindex]

theorem CommandUnit.copy_eq (u : CommandUnit) (line : Nat) (d : WriteData) :
    u.copy line d
      = { u with
          buffer := (u.copy line d).buffer
          coverage := if d.mask = 0 then u.coverage else u.coverage ||| (1#16 <<< line) } := by
  unfold CommandUnit.copy
  with_reducible rfl

/-- Byte `i` of the Command Buffer is in line `i / 64`. -/
theorem CommandUnit.copy_buffer_getD (u : CommandUnit) (line : Nat) (d : WriteData) {i : Nat} (hi : i < 1024) :
    (u.copy line d).buffer.getD i 0
      = if 64 * line ≤ i ∧ i < 64 * line + 64 ∧ d.mask.getLsbD (i - 64 * line) = true then d.data.getD (i - 64 * line) 0
        else u.buffer.getD i 0 := by
  have hcopied : (u.copy line d).buffer.getD i 0
      = if i / 64 = line ∧ d.mask.getLsbD (i % 64) then d.data.getD (i % 64) 0 else u.buffer.getD i 0 := by
    simp [CommandUnit.copy, hi]
  rw [hcopied]
  by_cases hline : i / 64 = line
  · have hoffset : i - 64 * line = i % 64 := by omega
    have hinside : 64 * line ≤ i ∧ i < 64 * line + 64 := by omega
    simp only [hoffset, hline, hinside, true_and]
  · have houtside : ¬ (64 * line ≤ i ∧ i < 64 * line + 64) := by omega
    rw [if_neg (mt And.left hline), if_neg fun h => houtside ⟨h.1, h.2.1⟩]

/-- R150: a write that does not enable byte 0 of line 0 submits nothing. -/
theorem State.commandWrite_of_no_submission {line : Nat} {d : WriteData} (h : line ≠ 0 ∨ d.mask.getLsbD 0 = false)
    (s : State) (owner : Function → Owner) : s.commandWrite owner line d = s.setCmd (s.cmd.copy line d) := by
  have hnot : ¬ (line = 0 ∧ d.mask.getLsbD 0 = true) := by
    rintro ⟨hzero, hbit⟩
    rcases h with hline | hmask
    · exact hline hzero
    · rw [hmask] at hbit
      cases hbit
  simp only [State.commandWrite, if_neg hnot]

/-- Settles O12: the copy of the write's enabled bytes, and nothing submitted. -/
theorem commandSlotWriteIsCopied : Obligations.CommandSlotWriteIsCopied := by
  unfold Obligations.CommandSlotWriteIsCopied
  intro s r rest d line hsettled hactive hforward hgrant hwrite hline haddr hwindows hguard _ hquiet
  refine ⟨(s.cmd.copy line d).buffer, ?_, by simp [CommandUnit.copy], fun i hi => s.cmd.copy_buffer_getD line d hi⟩
  rw [exec_commandSlotWrite hsettled hactive hforward hgrant hwrite hline haddr hwindows hguard,
    State.commandWrite_of_no_submission hquiet]
  exact congrArg (fun c => Host.Outcome.next { forwarded s r with cmd := c }) (s.cmd.copy_eq line d)

end Sys2Proof.Machine
end

section
/-! A packet as it stands in the Command Buffer (R150 to R156): the take of its bytes does what the row of its function
does. The row quiets the signals of the ports, which no function reads or sets. -/

namespace Sys2Proof.Machine
open Sys2Proof.Spec

/-! ### What does not read the ports -/

/-- A function's owner neither reads nor changes the signals of the ports. -/
def PortBlind (run : State → State × Reply) : Prop :=
  ∀ (p : Ports) (s : State), run (s.setPorts p) = ((run s).1.setPorts p, (run s).2)

theorem portBlind_checked {checks : State → List (Bool × Reason)} {act : State → State × Reply}
    (hchecks : ∀ (p : Ports) (s : State), checks (s.setPorts p) = checks s) (hact : PortBlind act) :
    PortBlind fun s => s.checked (checks s) (act s) := by
  intro p s
  simp only [State.checked, hchecks, hact p s]
  cases firstFailure (checks s) <;> rfl

/-- The surroundings of a state that differ from its own in the ports alone. -/
def State.portsOnly (s : State) (p : Ports) : Surroundings := ⟨s.path, p, 0, id⟩

theorem State.within_portsOnly {s t : State} (h : t.path = s.path) (p : Ports) :
    t.within (s.portsOnly p) = t.setPorts p := by
  have hremirror : ∀ x : Window, x.remirror id = x := fun x => by
    obtain ⟨record⟩ := x
    cases record <;> rfl
  have hwindows : (s.portsOnly p).windows t.sess.windows = t.sess.windows := by
    refine (congrArg (t.sess.windows.modify 0) (funext hremirror)).trans ?_
    exact List.modify_id 0 _
  rw [State.within, hwindows, show (s.portsOnly p).path = t.path from h.symm]
  rfl

theorem State.closeAll_setPorts (s : State) (p : Ports) (cause : Cause) :
    (s.setPorts p).closeAll cause = (s.closeAll cause).setPorts p := by
  have hpath : (s.closeAll cause).path = s.path := (s.closeAll_frame cause).1
  unfold State.closeAll at hpath ⊢
  rw [State.setPorts_ft]
  cases hlast : s.ft.frames.getLast? with
  | none => rfl
  | some f =>
    rw [hlast] at hpath
    have hwithin := State.within_closeBelow (s.portsOnly p) s (f.number + 1) cause
    rwa [State.within_portsOnly rfl, State.within_portsOnly hpath] at hwithin

theorem portBlind_stop : PortBlind State.stop := by
  intro p s
  have hdraining : (s.setPorts p).beginDraining = s.beginDraining.setPorts p := by
    have hclosed := State.closeAll_setPorts ((s.setSess { s.sess with state := .draining, timer := none }).file
      (stateRecord .draining s.sess.state)) p .stop
    exact congrArg (fun t : State => t.setAw t.aw.stopSession) hclosed
  unfold State.stop
  rw [State.setPorts_sess, hdraining]
  cases s.sess.state <;> rfl

theorem portBlind_restart : PortBlind State.restart := by
  intro p s
  unfold State.restart
  rw [State.setPorts_cmd]
  cases s.cmd.pin <;> rfl

/-- R151, step 5: the owners of the functions. -/
theorem portBlind_runFunction (fn : Function) (body : List Byte) : PortBlind (runFunction fn body) := by
  cases fn with
  | stop => exact portBlind_stop
  | restart => exact portBlind_restart
  | getFailReason | getSession | getWindows | getMeters | getStreams | getArchive | getResetCause =>
    exact fun _ _ => rfl
  | _ => exact portBlind_checked (fun _ _ => rfl) fun _ _ => rfl

theorem State.execute_setPorts {run : State → State × Reply} (h : PortBlind run) (p : Ports) (s : State) :
    (s.setPorts p).execute run = (s.execute run).setPorts p := by
  rw [State.execute, State.execute, h p s]
  cases (run s).2 <;> rfl

theorem State.takePart_setPorts {fn : Function} {owner : Owner} (h : ∀ body, PortBlind (owner body)) (p : Ports)
    (s : State) (part : Part) (body : List Byte) :
    (s.setPorts p).takePart fn owner part body = (s.takePart fn owner part body).setPorts p := by
  have hexecute (t : State) (bytes : List Byte) :
      (t.setPorts p).execute (owner bytes) = (t.execute (owner bytes)).setPorts p :=
    State.execute_setPorts (h bytes) p t
  have hended (bytes : List Byte) :
      (s.setPorts p).endSequence.execute (owner bytes) = (s.endSequence.execute (owner bytes)).setPorts p :=
    hexecute s.endSequence bytes
  unfold State.takePart
  rw [State.setPorts_cmd]
  cases part with
  | first => cases s.cmd.openSequence <;> rfl
  | only =>
    cases s.cmd.openSequence with
    | none =>
      simp only [hexecute]
      cases lengthFits fn body <;> rfl
    | some q => rfl
  | middle =>
    cases s.cmd.openSequence with
    | none => rfl
    | some q =>
      dsimp only
      split_ifs <;> rfl
  | last =>
    cases s.cmd.openSequence with
    | none => rfl
    | some q =>
      simp only [hended]
      split_ifs <;> rfl

/-- The take is the same whatever the signals of the ports are (R151). -/
theorem State.beginTake_eq_takenWith (s : State) (seq : Byte) (field : BitVec 16) :
    s.beginTake seq field = (takenWith s seq field).setPorts s.ports := by
  have hports (t : State) (p : Ports) : (t.setPorts p).beginTake seq field = (t.beginTake seq field).setPorts p := by
    rw [State.beginTake, State.beginTake, State.emitResponse, State.emitResponse]
    symm
    exact apply_ite (fun x : State => x.setPorts p) _ _ _
  rw [← State.beginTake_quiet, ← hports]
  rfl

/-! ### The take of the Command Buffer (R151 to R155) -/

theorem State.takePacket_of_error {s : State} {flag : BitVec 16}
    (h : checkPacket s.cmd.buffer s.cmd.coverage = .error flag) (seq : Byte) :
    s.takePacket runFunction seq
      = (failed (takenWith s seq (BitVec.ofNat 16 (fieldAt s.cmd.buffer 4 2))) flag).setPorts s.ports := by
  simp only [State.takePacket, h, State.beginTake_eq_takenWith]
  rw [← State.failCheck_of_working (takenWith_working s seq _)]
  rfl

theorem State.takePacket_of_ok {s : State} {p : Packet} (h : checkPacket s.cmd.buffer s.cmd.coverage = .ok p)
    (seq : Byte) :
    s.takePacket runFunction seq
      = ((taken s seq p.function).takePart p.function (runFunction p.function) p.part p.body).setPorts s.ports := by
  obtain ⟨-, -, hnumber, -⟩ := (checkPacket_ok_iff _ _ p).mp h
  simp only [State.takePacket, h, State.beginTake_eq_takenWith, hnumber]
  exact State.takePart_setPorts (portBlind_runFunction p.function) _ _ _ _

/-! ### The rows with the fields of a body (R172) -/

theorem leValue_lt (bytes : List Byte) : leValue bytes < 256 ^ bytes.length := by
  induction bytes with
  | nil => exact Nat.one_pos
  | cons b bs ih =>
    have hb := b.isLt
    rw [leValue, List.length_cons, Nat.pow_succ]
    omega

theorem fieldAt_lt (body : List Byte) (offset size : Nat) : fieldAt body offset size < 256 ^ size :=
  (leValue_lt _).trans_le (Nat.pow_le_pow_right (by decide) (List.length_take_le _ _))

/-- A field of two or four bytes, read as a number, is the operand that carries it. -/
theorem toNat_ofNat_fieldAt (body : List Byte) (offset size : Nat) :
    (BitVec.ofNat (8 * size) (fieldAt body offset size)).toNat = fieldAt body offset size := by
  rw [BitVec.toNat_ofNat, Nat.pow_mul]
  exact Nat.mod_eq_of_lt (fieldAt_lt body offset size)

/-- The row of a single-part function takes what the function's owner does on the body. -/
theorem exec_rowOf_single {fn : Function} (h : fn.multiPart = false) (seq : Byte) (body : List Byte) (s : State) :
    exec (rowOf fn seq body) s = .next (s.takeFunction seq fn (runFunction fn body)) := by
  cases fn with
  | loadWindows | loadTracks => cases h
  | setSession =>
    have hlateness : (byteAt body 2).toNat = fieldAt body 2 1 := (fieldAt_one body 2).symm
    have hrate : (byteAt body 3).toNat = fieldAt body 3 1 := (fieldAt_one body 3).symm
    simp only [rowOf, exec, execSetSession, hlateness, hrate, toNat_ofNat_fieldAt body 0 2,
      toNat_ofNat_fieldAt body 4 4]
    rfl
  | releaseSegment =>
    simp only [rowOf, exec, execReleaseSegment, toNat_ofNat_fieldAt body 0 2]
    rfl
  | _ => rfl

/-- A part of a single-part function that passes check 8 is the packet that its row takes. -/
theorem State.takePart_only_eq_takeSingle {fn : Function} {owner : Owner} {body : List Byte}
    (h : lengthFits fn body = true) (s : State) : s.takePart fn owner .only body = s.takeSingle (owner body) := by
  unfold State.takePart State.takeSingle
  cases s.cmd.openSequence with
  | none => exact if_pos h
  | some q => rfl

/-- A packet that passes the checks is the operand of its function's row. -/
theorem exec_rowOf_of_takes {s : State} {seq : Byte} (hsettled : Settled s) (htakes : Takes s seq) {fn : Function}
    {body : List Byte} (hfits : lengthFits fn body = true) (hshort : body.length ≤ 1008) :
    exec (rowOf fn seq body) s = .next ((taken s seq fn).takePart fn (runFunction fn) .only body) := by
  have htable : exec (rowOf fn seq body) s = .next (s.takeTable seq fn .only body) →
      exec (rowOf fn seq body) s = .next ((taken s seq fn).takePart fn (runFunction fn) .only body) := fun h => by
    rw [h, State.takeTable_of_takes hsettled htakes, if_neg (Nat.not_lt.mpr hshort)]
  by_cases hmulti : fn.multiPart = true
  · rcases (Function.multiPart_iff fn).mp hmulti with rfl | rfl
    · exact htable rfl
    · exact htable rfl
  · rw [exec_rowOf_single (eq_false_of_ne_true hmulti), State.takeFunction_of_takes hsettled htakes,
      State.takePart_only_eq_takeSingle hfits]

/-- A submission that is not taken does the same for every packet (R150, R154). -/
theorem State.submit_of_not_takes {s : State} {seq : Byte} (h : ¬ Takes s seq) (take other : State → State) :
    s.submit seq take = ((quiet s).submit seq other).setPorts s.ports := by
  by_cases hnew : s.straps.passOnly = true ∨ seq = 0 ∨ seq = s.cmd.lastTaken
  · rw [State.submit_of_not_new hnew, State.submit_of_not_new (s := quiet s) hnew]
    rfl
  · obtain ⟨hpass, hzero, hlast⟩ : ¬ s.straps.passOnly = true ∧ seq ≠ 0 ∧ seq ≠ s.cmd.lastTaken := by tauto
    have hactive : s.straps.passOnly = false := eq_false_of_ne_true hpass
    obtain ⟨w, hw⟩ := Option.ne_none_iff_exists'.mp fun hnone => h ⟨hactive, hnone, hzero, hlast⟩
    rw [State.submit_of_working hactive hzero hlast hw, State.submit_of_working (s := quiet s) hactive hzero hlast hw]
    rfl

theorem State.commandWrite_of_submission {d : WriteData} (h : d.mask.getLsbD 0 = true) (s : State)
    (owner : Function → Owner) :
    s.commandWrite owner 0 d
      = (s.setCmd (s.cmd.copy 0 d)).submit (byteAt (s.cmd.copy 0 d).buffer 0)
          fun x => x.takePacket owner (byteAt (s.cmd.copy 0 d).buffer 0) := by
  rw [State.commandWrite, if_pos ⟨rfl, h⟩, State.setCmd_cmd]

/-- Settles O10: the take of the bytes, by the outcome of checks 1 to 6, is the take of the row's operands. -/
theorem packetBytesRunTheRowTheyName : Obligations.PacketBytesRunTheRowTheyName := by
  unfold Obligations.PacketBytesRunTheRowTheyName
  intro s d hmask
  have hsubmission := State.commandWrite_of_submission hmask s runFunction
  have hsequence : (s.cmd.copy 0 d).openSequence = s.cmd.openSequence := s.cmd.copy_openSequence 0 d
  generalize s.cmd.copy 0 d = k at hsubmission hsequence ⊢
  intro u seq write does fails
  have hwrite : write = u.submit seq fun x => x.takePacket runFunction seq := hsubmission
  have hdoes {c : Instr} {x : State} (hexec : exec c u = .next x) (hx : write = x.setPorts s.ports) : does c := by
    intro t ht
    obtain rfl : x = t := Host.Outcome.next.inj (hexec.symm.trans ht)
    exact hx
  refine ⟨fun r rest hsettled hactive hforward hgrant hr haddr hwindows hguard => ?_, fun hsettled htakes => ?_,
    fun hsettled hnot c hseq => ?_⟩
  · have hline : r.addr = s.straps.baseSel.toNat * 16777216 + 64 * 0 := by rw [haddr, Nat.mul_zero, Nat.add_zero]
    exact exec_commandSlotWrite hsettled hactive hforward hgrant hr (Nat.zero_lt_succ 15) hline hwindows hguard
  · have htaken : write = u.takePacket runFunction seq := hwrite.trans (State.submit_of_takes htakes _)
    refine ⟨fun flag hflag => htaken.trans (State.takePacket_of_error hflag seq), fun p hp => ?_⟩
    have hpart := htaken.trans (State.takePacket_of_ok hp seq)
    obtain ⟨-, -, -, -, -, hlength, -, hbody, -⟩ := (checkPacket_ok_iff _ _ p).mp hp
    have hshort : p.body.length ≤ 1008 := by
      rw [hbody]
      exact (List.length_take_le _ _).trans hlength
    have htable {row : Part → Instr}
        (hrow : (p.function = .loadWindows ∧ row = fun q => .loadWindows seq q p.body)
          ∨ (p.function = .loadTracks ∧ row = fun q => .loadTracks seq q p.body)) : does (row p.part) := by
      refine hdoes (exec_table hrow p.part) (hpart.trans (congrArg (State.setPorts · s.ports) ?_))
      rw [State.takeTable_of_takes (s := u) hsettled htakes, if_neg (Nat.not_lt.mpr hshort)]
    refine ⟨fun honly hfits => ?_, fun honly hfits hopen => ?_, fun hfn => htable (.inl ⟨hfn, rfl⟩),
      fun hfn => htable (.inr ⟨hfn, rfl⟩)⟩
    · rw [honly] at hpart
      exact hdoes (exec_rowOf_of_takes (s := u) hsettled htakes hfits hshort) hpart
    · have hclosed : (taken u seq p.function).cmd.openSequence = none := (taken_openSequence u seq _).trans (hsequence.trans hopen)
      rw [honly, State.takePart_only_closed hclosed hfits,
        State.failCheck_of_working (taken_working u seq p.function)] at hpart
      exact hpart
  · obtain ⟨take, hexec⟩ := exec_eq_submit hseq
    have hready : u.ready = quiet u := State.ready_of_settled (s := u) hsettled
    refine hdoes (hexec u) (hwrite.trans ?_)
    rw [hready]
    exact State.submit_of_not_takes hnot _ _

end Sys2Proof.Machine
end
